-- ==== Sys2Proof/Word.lean ====
section
/-! DEFINITION. The byte, and byte sequences (spec 00_scope.md R11, R12). -/

namespace Sys2Proof

/-- A byte, an unsigned value 0..255 (R11). -/
abbrev Byte := BitVec 8

/-- A byte sequence, the spec's buffer or string (R12). -/
abbrev Bytes := List Byte

end Sys2Proof
end

