-- ==== Sys2Proof/Config.lean ====
section
/-! DEFINITION. The parameters and fixed constants of 00_scope.md R9, and the free values of the two collaborator
draws (R15). -/

namespace Sys2Proof

/-- `SM`, the start-marker sentinel byte (R9, R103). DESIGN CHOICE of the spec (D41): the value is taken from the
source's scenario, whose literals are unaudited; unsafe, log entry 11. -/
def Config.sm : Byte := 0x10#8

/-- `EM`, the end-marker sentinel byte (R9, R109). Same standing as `SM`; unsafe, log entry 11. -/
def Config.em : Byte := 0x16#8

/-- `L_MAX`, the largest payload length (R9). -/
def Config.lMax : Nat := 65535

/-- `HDR_LEN`, the characters before the payload (R9). -/
def Config.hdrLen : Nat := 14

/-- `OVH`, the frame characters that are not payload (R9, R10). -/
def Config.ovh : Nat := 16

/-- `P_BCAST_INTERVAL`'s default (R9, D14). The interval itself is a field of State, so that a claim holds for every
value of it (log entry 6). -/
def Config.defaultBcastInterval : BitVec 16 := 10#16

/-- `P_MAX_BUF`, the link MTU, OPEN (R9, D33): a free value. The block checks nothing against it (R83); log entry 6,
safe. -/
opaque Config.pMaxBuf : Nat

/-- The answer of the n-th draw where it is a SensorRead of the kind with this ordinal and the input supplies no
answer (R15: any byte sequence of any length, under no law): a free value; log entry 5, safe. -/
opaque Config.sensorRead : Nat → Byte → Bytes

/-- The answer of the n-th draw where it is an ActuatorApply of the kind with this ordinal and these command bytes
and the input supplies no answer (R15): a free value; log entry 5, safe. -/
opaque Config.actuatorApply : Nat → Byte → Bytes → Bytes

end Sys2Proof
end

