-- ==== Sys2Proof/Syntax.lean ====
section
/-! DEFINITION. The block's two formats as data: the frame rows and the host commands of spec/opcode_table.json
(30_encoding.md R100, R121), the enumerations they carry (R111, R112, R114), and what the host issues (R123). -/

namespace Sys2Proof

/-- A 4-byte identifier, byte 0 first on the wire (10_state.md R33, 20_memory.md R74). Any bytes (D11). -/
structure NodeId where
  b0 : Byte
  b1 : Byte
  b2 : Byte
  b3 : Byte
deriving DecidableEq, Repr

/-- The eight op codes (R111). -/
inductive OpCode where
  | gatewayInit | nodeInit | initSuccess | command | commandExec | sensorDataReq | sensorData | ack
deriving DecidableEq, Repr

/-- The seven data kinds (R112). -/
inductive DataKind where
  | tempS | lightS | moistS | motionS | act1 | act2 | na
deriving DecidableEq, Repr

/-- The two roles (R114). -/
inductive Role where
  | sensorNode | actuatorNode
deriving DecidableEq, Repr

/-- RST's operand `cfg` (10_state.md R46). `announceKind` keeps its 3 bits: the value 7 can be issued, and is refused
(70_reset_and_hazards.md R340). -/
structure RstCfg where
  nodeId : NodeId
  gwId : NodeId
  role : Role
  announceKind : BitVec 3
  kinds : BitVec 7
deriving DecidableEq, Repr

/-- A structured message `(id, op, kind, L, payload)` (00_scope.md R16). `op` and `kind` are bytes, which may hold a
reserved value. -/
structure Message where
  id : NodeId
  op : Byte
  kind : Byte
  len : BitVec 16
  payload : Bytes
deriving DecidableEq, Repr

/-- The instructions: one constructor per row of spec/opcode_table.json. The first eight are the receipt of a complete
frame with that op code (41_session_fsm.md R203 to R210; log entry 1); the other seven are the host commands (R121). -/
inductive Instr where
  | gatewayInit (id : NodeId) (kind : DataKind) (payload : Bytes)
  | nodeInit (id : NodeId) (kind : DataKind) (payload : Bytes)
  | initSuccess (id : NodeId) (kind : DataKind) (payload : Bytes)
  | command (id : NodeId) (kind : DataKind) (payload : Bytes)
  | commandExec (id : NodeId) (kind : DataKind) (payload : Bytes)
  | sensorDataReq (id : NodeId) (kind : DataKind) (payload : Bytes)
  | sensorData (id : NodeId) (kind : DataKind) (payload : Bytes)
  | ack (id : NodeId) (kind : DataKind) (payload : Bytes)
  | rst (cfg : RstCfg)
  | enc (id : NodeId) (op : Byte) (kind : Byte) (payload : Bytes)
  | dec (buf : Bytes)
  | chkstart (buf : Bytes)
  | upd (msg : Message)
  | rx (buf : Bytes)
  | tick
deriving DecidableEq, Repr

/-- The words the block is handed, in the table's two formats. A host command is its 3-bit code and its operand bundle
as bytes (R121; the bundle's layout is log entry 8). A frame is a received buffer (R100; log entry 1). -/
inductive HostWord where
  | hostCmd (code : BitVec 3) (operands : Bytes)
  | frame (buf : Bytes)
deriving DecidableEq, Repr

/-- One line of a host program: the word issued, and the draw its command receives if the line carries one (R123). A
command takes at most one draw (R15). -/
structure Issue where
  word : HostWord
  draw : Option Bytes
deriving DecidableEq, Repr

end Sys2Proof
end

