-- ==== Sys2Proof/Decode.lean ====
section
/-! DEFINITION. The hex primitives (40_codec.md R140 to R143), the ordinals of the enumerations (30_encoding.md R111 to
R114), the frame packer and parser (R144, R150), and the decoder and encoder of everything the host issues (R121). -/

namespace Sys2Proof

/-! ## Hex primitives -/

/-- `HexDigit(v)` (R140). -/
def hexDigit (v : BitVec 4) : Byte :=
  if v ≤ 9#4 then 0x30#8 + v.setWidth 8 else 0x41#8 + (v.setWidth 8 - 10#8)

/-- `HexPair(b)`, high nibble first (R141, 20_memory.md R76). -/
def hexPair (b : Byte) : Bytes :=
  [hexDigit (b.extractLsb' 4 4), hexDigit (b.extractLsb' 0 4)]

/-- `HexVal(c)`; `none` is BAD (R142). -/
def hexVal (c : Byte) : Option (BitVec 4) :=
  if 0x30#8 ≤ c ∧ c ≤ 0x39#8 then some ((c - 0x30#8).setWidth 4)
  else if 0x41#8 ≤ c ∧ c ≤ 0x46#8 then some ((c - 0x41#8 + 10#8).setWidth 4)
  else none

/-- `HexByte(c1, c2)`; `none` is BAD (R143). -/
def hexByte (c1 c2 : Byte) : Option Byte :=
  match hexVal c1, hexVal c2 with
  | some h, some l => some (16#8 * h.setWidth 8 + l.setWidth 8)
  | _, _ => none

/-! ## Ordinals -/

/-- The op codes' ordinals (R111). DESIGN CHOICE of the spec (D3): the listing order; unsafe, log entry 11. -/
def OpCode.toByte : OpCode → Byte
  | .gatewayInit => 0x00#8
  | .nodeInit => 0x01#8
  | .initSuccess => 0x02#8
  | .command => 0x03#8
  | .commandExec => 0x04#8
  | .sensorDataReq => 0x05#8
  | .sensorData => 0x06#8
  | .ack => 0x07#8

/-- The op code with this ordinal; 0x08..0xFF are reserved (R115). -/
def OpCode.ofByte (b : Byte) : Option OpCode :=
  match b.toNat with
  | 0 => some .gatewayInit
  | 1 => some .nodeInit
  | 2 => some .initSuccess
  | 3 => some .command
  | 4 => some .commandExec
  | 5 => some .sensorDataReq
  | 6 => some .sensorData
  | 7 => some .ack
  | _ => none

/-- The data kinds' ordinals (R112). DESIGN CHOICE of the spec (D4); unsafe, log entry 11. -/
def DataKind.toByte : DataKind → Byte
  | .tempS => 0x00#8
  | .lightS => 0x01#8
  | .moistS => 0x02#8
  | .motionS => 0x03#8
  | .act1 => 0x04#8
  | .act2 => 0x05#8
  | .na => 0x06#8

/-- The data kind with this ordinal; 0x07..0xFF are reserved (R116). -/
def DataKind.ofByte (b : Byte) : Option DataKind :=
  match b.toNat with
  | 0 => some .tempS
  | 1 => some .lightS
  | 2 => some .moistS
  | 3 => some .motionS
  | 4 => some .act1
  | 5 => some .act2
  | 6 => some .na
  | _ => none

/-- The roles' encoding (R114). -/
def Role.toBit : Role → BitVec 1
  | .sensorNode => 0#1
  | .actuatorNode => 1#1

/-- The role a configuration bit names (R114). -/
def Role.ofBit (b : BitVec 1) : Role := if b = 0#1 then .sensorNode else .actuatorNode

/-! ## Frames -/

/-- The bytes of an identifier in wire order (20_memory.md R74). -/
def NodeId.toBytes (n : NodeId) : Bytes := [n.b0, n.b1, n.b2, n.b3]

/-- `L[7:0]` (30_encoding.md R107). -/
def lenLo (l : Nat) : Byte := BitVec.ofNat 8 l

/-- `L[15:8]` (R107). -/
def lenHi (l : Nat) : Byte := BitVec.ofNat 8 (l / 256)

/-- `lo + 256 * hi`, base-256 (R107, 90_conflicts.md C4). -/
def lenOf (lo hi : Byte) : BitVec 16 := lo.setWidth 16 + 256#16 * hi.setWidth 16

/-- The frame of a message (R100, 40_codec.md R144): the seven fields in order, the length low byte first. -/
def frameBytes (id : NodeId) (op kind : Byte) (payload : Bytes) : Bytes :=
  hexPair Config.sm ++ id.toBytes ++ hexPair op ++ hexPair kind
    ++ hexPair (lenLo payload.length) ++ hexPair (lenHi payload.length)
    ++ payload ++ hexPair Config.em

/-- Why a buffer does not decode, with the offset of the field whose check failed (R150, 60_exceptions.md R301). -/
inductive CodecError where
  | framing (offset : Nat)
  | truncation (offset : Nat)
  | hex (offset : Nat)
  | enumeration (offset : Nat)
deriving DecidableEq, Repr

/-- What the parser reads from a frame: the message, its op code and data kind known to be in the catalog. -/
structure ParsedFrame where
  id : NodeId
  op : OpCode
  kind : DataKind
  len : BitVec 16
  payload : Bytes
deriving DecidableEq, Repr

/-- `MemRead(buf, i, 1)`; `none` outside the buffer, which a check always excludes first (20_memory.md R71). -/
def memRead (buf : Bytes) (i : Nat) : Option Byte := buf[i]?

/-- DEC stage 1: the start marker against the bytes present (R150, 90_conflicts.md C7). -/
def startMarker (buf : Bytes) : Except CodecError Unit :=
  match memRead buf 0, memRead buf 1 with
  | some a, some b => if [a, b] = hexPair Config.sm then .ok () else .error (.framing 0)
  | some a, none => if some a = (hexPair Config.sm)[0]? then .error (.truncation 0) else .error (.framing 0)
  | none, _ => .error (.truncation 0)

/-- DEC stage 2: the node_id, four literal bytes at offset 2 (R150). -/
def idField (buf : Bytes) : Except CodecError NodeId :=
  match memRead buf 2, memRead buf 3, memRead buf 4, memRead buf 5 with
  | some a, some b, some c, some d => .ok ⟨a, b, c, d⟩
  | _, _, _, _ => .error (.truncation 2)

/-- `Pair(buf, k)`: one hex-pair field at offset `k` (R150). -/
def pairField (buf : Bytes) (k : Nat) : Except CodecError Byte :=
  match memRead buf k, memRead buf (k + 1) with
  | some a, some b =>
    match hexByte a b with
    | some v => .ok v
    | none => .error (.hex k)
  | _, _ => .error (.truncation k)

/-- DEC stage 3: the op code at offset 6 (R150, R115). -/
def opField (buf : Bytes) : Except CodecError OpCode :=
  match pairField buf 6 with
  | .error e => .error e
  | .ok v =>
    match OpCode.ofByte v with
    | some op => .ok op
    | none => .error (.enumeration 6)

/-- DEC stage 4: the data kind at offset 8 (R150, R116). -/
def kindField (buf : Bytes) : Except CodecError DataKind :=
  match pairField buf 8 with
  | .error e => .error e
  | .ok v =>
    match DataKind.ofByte v with
    | some kind => .ok kind
    | none => .error (.enumeration 8)

/-- DEC stage 5: the payload length, low byte at offset 10, high byte at 12 (R150). -/
def lenField (buf : Bytes) : Except CodecError (BitVec 16) :=
  match pairField buf 10 with
  | .error e => .error e
  | .ok lo =>
    match pairField buf 12 with
    | .error e => .error e
    | .ok hi => .ok (lenOf lo hi)

/-- DEC stage 6: the payload and the end marker at the declared offset, and nowhere else (R150, R152). -/
def bodyField (buf : Bytes) (l : Nat) : Except CodecError Bytes :=
  match memRead buf (14 + l), memRead buf (15 + l) with
  | some a, some b =>
    if hexByte a b = some Config.em then .ok ((buf.drop 14).take l) else .error (.framing (14 + l))
  | _, _ => .error (.truncation 14)

/-- DEC's parser: the fields in the order of R150, the first failing check ending it. Bytes after the frame are
ignored (R153). -/
def parseFrame (buf : Bytes) : Except CodecError ParsedFrame :=
  match startMarker buf with
  | .error e => .error e
  | .ok _ =>
    match idField buf with
    | .error e => .error e
    | .ok id =>
      match opField buf with
      | .error e => .error e
      | .ok op =>
        match kindField buf with
        | .error e => .error e
        | .ok kind =>
          match lenField buf with
          | .error e => .error e
          | .ok len =>
            match bodyField buf len.toNat with
            | .error e => .error e
            | .ok payload => .ok ⟨id, op, kind, len, payload⟩

/-! ## The decoder -/

/-- Why an issued word is no instruction. -/
inductive DecodeError where
  /-- Host command code 7 (R122). -/
  | reservedCode
  /-- An operand bundle that is not one of the command's port shape (R46; log entry 8). -/
  | badOperands (code : BitVec 3)
  /-- A received buffer that is not a frame (R150). -/
  | notAFrame (e : CodecError)
deriving DecidableEq, Repr

/-- RST's bundle: node_id, gw_id, role, announce_kind, kinds (R46; the layout is log entry 8). -/
def rstOperands : Bytes → Option Instr
  | [n0, n1, n2, n3, g0, g1, g2, g3, r, a, k] =>
    if r < 2#8 ∧ a < 8#8 ∧ k < 128#8 then
      some (.rst ⟨⟨n0, n1, n2, n3⟩, ⟨g0, g1, g2, g3⟩, Role.ofBit (r.setWidth 1), a.setWidth 3, k.setWidth 7⟩)
    else none
  | _ => none

/-- ENC's bundle: id, op, kind, and the rest is the payload (R46; log entry 8). -/
def encOperands : Bytes → Option Instr
  | n0 :: n1 :: n2 :: n3 :: op :: kind :: payload => some (.enc ⟨n0, n1, n2, n3⟩ op kind payload)
  | _ => none

/-- UPD's bundle: id, op, kind, L low byte first, and the rest is the payload (R46; log entry 8). -/
def updOperands : Bytes → Option Instr
  | n0 :: n1 :: n2 :: n3 :: op :: kind :: lo :: hi :: payload =>
    some (.upd ⟨⟨n0, n1, n2, n3⟩, op, kind, lenOf lo hi, payload⟩)
  | _ => none

/-- The command a code and a bundle name (R121). Code 7 is none of them (R122). -/
def commandOperands (code : BitVec 3) (operands : Bytes) : Option Instr :=
  match code.toNat with
  | 0 => rstOperands operands
  | 1 => encOperands operands
  | 2 => some (.dec operands)
  | 3 => some (.chkstart operands)
  | 4 => updOperands operands
  | 5 => some (.rx operands)
  | 6 => if operands = [] then some .tick else none
  | _ => none

/-- The frame row a parsed frame belongs to (R111). -/
def ParsedFrame.toInstr (p : ParsedFrame) : Instr :=
  match p.op with
  | .gatewayInit => .gatewayInit p.id p.kind p.payload
  | .nodeInit => .nodeInit p.id p.kind p.payload
  | .initSuccess => .initSuccess p.id p.kind p.payload
  | .command => .command p.id p.kind p.payload
  | .commandExec => .commandExec p.id p.kind p.payload
  | .sensorDataReq => .sensorDataReq p.id p.kind p.payload
  | .sensorData => .sensorData p.id p.kind p.payload
  | .ack => .ack p.id p.kind p.payload

/-- The decoder, total on every word: an instruction, or a rejection by name. -/
def decode : HostWord → Except DecodeError Instr
  | .hostCmd code operands =>
    if code = 7#3 then .error .reservedCode
    else
      match commandOperands code operands with
      | some i => .ok i
      | none => .error (.badOperands code)
  | .frame buf =>
    match parseFrame buf with
    | .ok p => .ok p.toInstr
    | .error e => .error (.notAFrame e)

/-! ## The encoder -/

/-- The word of an instruction: a frame row's frame (R100), a host command's code and bundle (R121, R46). -/
def encode : Instr → HostWord
  | .gatewayInit id kind p => .frame (frameBytes id (OpCode.toByte .gatewayInit) kind.toByte p)
  | .nodeInit id kind p => .frame (frameBytes id (OpCode.toByte .nodeInit) kind.toByte p)
  | .initSuccess id kind p => .frame (frameBytes id (OpCode.toByte .initSuccess) kind.toByte p)
  | .command id kind p => .frame (frameBytes id (OpCode.toByte .command) kind.toByte p)
  | .commandExec id kind p => .frame (frameBytes id (OpCode.toByte .commandExec) kind.toByte p)
  | .sensorDataReq id kind p => .frame (frameBytes id (OpCode.toByte .sensorDataReq) kind.toByte p)
  | .sensorData id kind p => .frame (frameBytes id (OpCode.toByte .sensorData) kind.toByte p)
  | .ack id kind p => .frame (frameBytes id (OpCode.toByte .ack) kind.toByte p)
  | .rst c =>
    .hostCmd 0#3 (c.nodeId.toBytes ++ c.gwId.toBytes
      ++ [c.role.toBit.setWidth 8, c.announceKind.setWidth 8, c.kinds.setWidth 8])
  | .enc id op kind p => .hostCmd 1#3 (id.toBytes ++ [op, kind] ++ p)
  | .dec buf => .hostCmd 2#3 buf
  | .chkstart buf => .hostCmd 3#3 buf
  | .upd m => .hostCmd 4#3 (m.id.toBytes ++ [m.op, m.kind, lenLo m.len.toNat, lenHi m.len.toNat] ++ m.payload)
  | .rx buf => .hostCmd 5#3 buf
  | .tick => .hostCmd 6#3 []

/-! ## The opcode table's words -/

/-- A bundle of zeros of the command's fixed length (R46): what stands above the 3 code bits in a table word. -/
def zeroOperands (code : BitVec 3) : Bytes :=
  match code.toNat with
  | 0 => List.replicate 11 0#8
  | 1 => List.replicate 6 0#8
  | 4 => List.replicate 8 0#8
  | _ => []

/-- The word whose table bits are `w`. A row of fewer than 8 bits is a host command's 3-bit code (R121); a row of 8
bits is a frame's op code (R111), its other fields zero: id of zero bytes, kind 0, no payload. The two formats share
their table bits (0x00 is GATEWAY_INIT's op code and RST's code), so the width tells them apart; log entry 9. -/
def tableWord (nbits w : Nat) : HostWord :=
  if nbits < 8 then .hostCmd (BitVec.ofNat 3 w) (zeroOperands (BitVec.ofNat 3 w))
  else .frame (frameBytes ⟨0#8, 0#8, 0#8, 0#8⟩ (BitVec.ofNat 8 w) 0#8 [])

/-- The instruction the decoder reads from a table word. -/
def decodeTableWord (nbits w : Nat) : Option Instr :=
  match decode (tableWord nbits w) with
  | .ok i => some i
  | .error _ => none

end Sys2Proof
end

