-- ==== Sys2Proof/Machine/State.lean ====
section
/-! DEFINITION. The block's state: the nine registers of 10_state.md R33 to R42, whether a session has begun (R342), the
announcement interval (00_scope.md R9), the output ports of the last command (R46), and what the host hands over next. -/

namespace Sys2Proof.Machine

/-- The modes (30_encoding.md R113). MODE values 5..7 are never written (R39, I9), so the type leaves them out; log
entry 10. -/
inductive Mode where
  | initializing | broadcasting | active | sensorReporting | actuating
deriving DecidableEq, Repr

/-- The status codes (60_exceptions.md R301). 9..15 are never produced (I10), so the type leaves them out. -/
inductive Status where
  | ok | errFraming | errTruncation | errHex | errEnum | errOverflow | rejIdentity | rejOpmode | rejRole
deriving DecidableEq, Repr

/-- A request to a collaborator (10_state.md R48, 60_exceptions.md R321): the sensor to read, or the actuator to drive
and the command bytes it gets. -/
inductive Request where
  | sensorRead (kind : DataKind)
  | actuatorApply (kind : DataKind) (command : Bytes)
deriving DecidableEq, Repr

/-- The output ports after a command (10_state.md R46). A port the command does not set is none. `request` is the
collaborator request the command made (R48), at most one (00_scope.md R15). Log entry 7. -/
structure Outputs where
  /-- STATUS. -/
  status : Status
  /-- REPORT, the observability port (60_exceptions.md R324). -/
  report : Option Status := none
  /-- INFO, the offset of the field whose check failed (R150). -/
  info : Option Nat := none
  /-- FRAME, what ENC returns (R47). -/
  frame : Option Bytes := none
  /-- MSG, what DEC returns. -/
  msg : Option Message := none
  /-- FLEN, the frame length DEC consumed. -/
  flen : Option Nat := none
  /-- PRESENT, CHKSTART's bit. -/
  present : Option Bool := none
  /-- TX, the frame handed to the radio driver (R47). -/
  tx : Option Bytes := none
  /-- The collaborator request made within the command (R48). -/
  request : Option Request := none
deriving DecidableEq, Repr

/-- Everything the block holds, and what the host hands over next. -/
structure State where
  /-- CFG_NODE_ID (R33). -/
  cfgNodeId : NodeId
  /-- CFG_GW_ID (R34). -/
  cfgGwId : NodeId
  /-- CFG_ROLE (R35). -/
  cfgRole : Role
  /-- CFG_ANNOUNCE_KIND (R36). -/
  cfgAnnounceKind : DataKind
  /-- CFG_KINDS (R37); no rule reads it. -/
  cfgKinds : BitVec 7
  /-- MODE (R39). -/
  mode : Mode
  /-- GW_CONFIRMED (R40). -/
  gwConfirmed : Bool
  /-- BCAST_CNT (R41). -/
  bcastCnt : BitVec 16
  /-- PEND_KIND (R42). -/
  pendKind : DataKind
  /-- Whether an RST has been issued (70_reset_and_hazards.md R342); log entry 4. -/
  started : Bool
  /-- P_BCAST_INTERVAL, fixed for a model instance and written by no command (00_scope.md R9, R30); log entry 6. -/
  bcastInterval : BitVec 16
  /-- The output ports of the last command (R46); log entry 7. -/
  out : Outputs
  /-- What the host issues next, oldest first (R123); log entry 2. -/
  pending : List Issue
  /-- The collaborator's answer to the command being executed, where the input supplies one (R15, R123); log entry 5. -/
  answer : Option Bytes
  /-- How many draws have been taken: the index of the free value of the next draw the input does not supply. The
  model's own; log entry 5. -/
  drawCount : Nat
deriving DecidableEq, Repr

/-- The reasons a step can fault: none. Every failure of the block is a status code, never a trap (60_exceptions.md
R300), so this type has no constructor, and no step raises one; log entry 14, exact. -/
inductive Fault
deriving DecidableEq, Repr

/-- The reasons a step can be refused. -/
inductive Refusal where
  /-- Raised by exec for an instruction that has no meaning yet. Safe. -/
  | notModelled (mnemonic : String)
  /-- Raised by every instruction but RST before the first RST (70_reset_and_hazards.md R342, I5). Safe: the spec refuses
  it; log entry 4. -/
  | beforeFirstRst
  /-- Raised by RST with announce_kind 7 (R340, I6). Safe: the spec refuses it; log entry 18. -/
  | reservedAnnounceKind
  /-- Raised by step for host command code 7 (30_encoding.md R122, I7). Safe: the spec refuses it; log entry 19. -/
  | reservedCommandCode
  /-- Raised by step for an operand bundle that is not of the command's port shape (10_state.md R46; I14 refuses an
  interaction the spec does not list). Safe; log entry 8. -/
  | malformedOperands (code : BitVec 3)
deriving DecidableEq, Repr

/-- The configuration State.reset is reset with: CFG-S of 95_test_vectors.md (node "1101", gateway "0001", SENSOR_NODE,
TEMP_S, kinds 0000001). DESIGN CHOICE: the configuration is RST's operand, and the spec fixes no node's; unsafe, log
entry 3. -/
def State.resetCfg : RstCfg :=
  { nodeId := ⟨0x31#8, 0x31#8, 0x30#8, 0x31#8⟩
    gwId := ⟨0x30#8, 0x30#8, 0x30#8, 0x31#8⟩
    role := .sensorNode
    announceKind := 0#3
    kinds := 0b0000001#7 }

/-- The machine right after reset: the state RST leaves (10_state.md R50, R340, R341), with the configuration
`State.resetCfg` (log entry 3), the default interval (R9), nothing issued yet (log entry 2), no answer supplied and no
draw taken (log entry 5), and RST's outputs (log entry 7). -/
def State.reset : State :=
  { cfgNodeId := State.resetCfg.nodeId
    cfgGwId := State.resetCfg.gwId
    cfgRole := State.resetCfg.role
    cfgAnnounceKind := .tempS
    cfgKinds := State.resetCfg.kinds
    mode := .initializing
    gwConfirmed := false
    bcastCnt := 0#16
    pendKind := .tempS
    started := true
    bcastInterval := Config.defaultBcastInterval
    out := { status := .ok }
    pending := []
    answer := none
    drawCount := 0 }

end Sys2Proof.Machine
end

