-- ==== Sys2Proof/Machine/Flags.lean ====
section
/-! DEFINITION. The encodings of the status, the modes and the flag (60_exceptions.md R301, 30_encoding.md R113), the
outputs of a command that succeeds or fails (R324, 00_scope.md R14), and the state view (10_state.md R49). The block has
no condition codes (R45). -/

namespace Sys2Proof.Machine

/-- The 4-bit status codes (R301). -/
def Status.code : Status → BitVec 4
  | .ok => 0#4
  | .errFraming => 1#4
  | .errTruncation => 2#4
  | .errHex => 3#4
  | .errEnum => 4#4
  | .errOverflow => 5#4
  | .rejIdentity => 6#4
  | .rejOpmode => 7#4
  | .rejRole => 8#4

/-- The mode register's encoding (R113). -/
def Mode.code : Mode → BitVec 3
  | .initializing => 0#3
  | .broadcasting => 1#3
  | .active => 2#3
  | .sensorReporting => 3#3
  | .actuating => 4#3

/-- The status code of a decode failure (R301). -/
def errorStatus : CodecError → Status
  | .framing _ => .errFraming
  | .truncation _ => .errTruncation
  | .hex _ => .errHex
  | .enumeration _ => .errEnum

/-- The INFO offset of a decode failure (R150, D42). -/
def errorOffset : CodecError → Nat
  | .framing k => k
  | .truncation k => k
  | .hex k => k
  | .enumeration k => k

/-- The outputs of a command that succeeds and sets no other port: STATUS OK, REPORT none (R324). -/
def okOutputs : Outputs := { status := .ok }

/-- The outputs of a failing command: STATUS and REPORT are the code, INFO the offset if the command has one (R14,
R324). -/
def failedOutputs (e : Status) (info : Option Nat) : Outputs := { status := e, report := some e, info := info }

/-- The nine registers as the host observes them, in the spec's widths (10_state.md R49, R50). -/
structure StateView where
  cfgNodeId : NodeId
  cfgGwId : NodeId
  cfgRole : BitVec 1
  cfgAnnounceKind : BitVec 3
  cfgKinds : BitVec 7
  mode : BitVec 3
  gwConfirmed : BitVec 1
  bcastCnt : BitVec 16
  pendKind : BitVec 3
deriving DecidableEq, Repr

/-- The state view (R49): every register, read by name. -/
def State.view (s : State) : StateView :=
  { cfgNodeId := s.cfgNodeId
    cfgGwId := s.cfgGwId
    cfgRole := s.cfgRole.toBit
    cfgAnnounceKind := s.cfgAnnounceKind.toByte.setWidth 3
    cfgKinds := s.cfgKinds
    mode := s.mode.code
    gwConfirmed := BitVec.ofBool s.gwConfirmed
    bcastCnt := s.bcastCnt
    pendKind := s.pendKind.toByte.setWidth 3 }

end Sys2Proof.Machine
end

