-- ==== Sys2Proof/Machine/Operands.lean ====
section
/-! DEFINITION. The operand checks of the commands that take raw ordinals: the op code and data kind bytes of ENC and
UPD (40_codec.md R144, 41_session_fsm.md R200) and RST's announce kind (70_reset_and_hazards.md R340). -/

namespace Sys2Proof.Machine

/-- `op > 7 or kind > 6` is ERR_ENUM, in this order and with one code (30_encoding.md R115, R116); otherwise the op code
and data kind. -/
def checkedOrdinals (op kind : Byte) : Option (OpCode × DataKind) :=
  match OpCode.ofByte op with
  | none => none
  | some o =>
    match DataKind.ofByte kind with
    | none => none
    | some k => some (o, k)

/-- RST's announce kind as a data kind; 7 is none (R340, 10_state.md R36). -/
def announceKindOf (k : BitVec 3) : Option DataKind := DataKind.ofByte (k.setWidth 8)

/-- MSG as DEC gives it: the op code and data kind as their ordinals (00_scope.md R16). -/
def messageOf (p : ParsedFrame) : Message :=
  { id := p.id, op := p.op.toByte, kind := p.kind.toByte, len := p.len, payload := p.payload }

end Sys2Proof.Machine
end

