-- ==== Sys2Proof/Machine/Ops.lean ====
section
/-! DEFINITION. The named operations every meaning is written over: register writes, ending a command, raising a failure
(00_scope.md R14), the draws (R15), the emission (41_session_fsm.md R212), the identity gate (R201) and taking what the
host issues next (30_encoding.md R123). -/

namespace Sys2Proof.Machine

/-! ## Writes -/

/-- Sets the output ports (10_state.md R46). -/
def State.setOut (s : State) (o : Outputs) : State := { s with out := o }

/-- `MODE <- m` (R39). -/
def State.setMode (s : State) (m : Mode) : State := { s with mode := m }

/-- `GW_CONFIRMED <- 1` (R40). -/
def State.confirmGateway (s : State) : State := { s with gwConfirmed := true }

/-- `BCAST_CNT <- n` (R41). -/
def State.setBcastCnt (s : State) (n : BitVec 16) : State := { s with bcastCnt := n }

/-- `PEND_KIND <- k` (R42). -/
def State.setPendKind (s : State) (k : DataKind) : State := { s with pendKind := k }

/-! ## Ending a command -/

/-- A command that succeeds and sets no other port: STATUS OK, REPORT none (60_exceptions.md R324). -/
def complete (s : State) : State := s.setOut okOutputs

/-- `raise E(info)`: the one way a command fails. No register is written and nothing is emitted (00_scope.md R14,
60_exceptions.md R300, R315). -/
def raise (e : Status) (info : Option Nat) (s : State) : State := s.setOut (failedOutputs e info)

/-- A decode failure: its code, and its offset as INFO (R150). -/
def raiseCodec (e : CodecError) (s : State) : State := raise (errorStatus e) (some (errorOffset e)) s

/-- A command other than RST has a meaning only after the first RST (70_reset_and_hazards.md R342). -/
def inSession (s : State) (t : State) : Host.Outcome State Fault Refusal :=
  if s.started then .next t else .refused .beforeFirstRst

/-! ## Draws -/

/-- The free value of a draw the input does not supply: any byte sequence (00_scope.md R15); log entry 5. -/
def freeAnswer (n : Nat) : Request → Bytes
  | .sensorRead k => Config.sensorRead n k.toByte
  | .actuatorApply k c => Config.actuatorApply n k.toByte c

/-- The collaborator's answer to a request: the one supplied with the command, else a free value (R15, R123). -/
def drawnAnswer (r : Request) (s : State) : Bytes :=
  match s.answer with
  | some a => a
  | none => freeAnswer s.drawCount r

/-- The state after a draw: the request stands on its port, the answer is used up (R48). -/
def afterDraw (r : Request) (s : State) : State :=
  { s with out := { s.out with request := some r }, answer := none, drawCount := s.drawCount + 1 }

/-! ## Emission -/

/-- `Emit(op, kind, payload)` (41_session_fsm.md R212): the frame on TX with this node's id, or REPORT ERR_OVERFLOW and no
TX where the payload's length does not fit 16 bits. DESIGN CHOICE of the spec (D19); log entry 11. -/
def emit (op : OpCode) (kind : DataKind) (payload : Bytes) (s : State) : State :=
  if payload.length > Config.lMax then
    s.setOut { s.out with report := some .errOverflow, tx := none }
  else
    s.setOut { s.out with tx := some (frameBytes s.cfgNodeId op.toByte kind.toByte payload) }

/-! ## The identity gate -/

/-- A message whose node_id differs from CFG_GW_ID is rejected before anything else is looked at (41_session_fsm.md R201,
90_conflicts.md C8). -/
def identityGate (id : NodeId) (accepted : State → State) (s : State) : State :=
  if id = s.cfgGwId then accepted s else raise .rejIdentity none s

/-! ## What the host issues next -/

/-- The next word the host issues and the state in which its command runs: the word taken off, the draw it carries at
hand (30_encoding.md R123, 20_memory.md R84). `none` where the host has issued nothing. -/
def fetch (s : State) : Option (HostWord × State) :=
  match s.pending with
  | [] => none
  | x :: rest => some (x.word, { s with pending := rest, answer := x.draw })

end Sys2Proof.Machine
end

