-- ==== Sys2Proof/Machine/Codec.lean ====
section
/-! DEFINITION. The Packet Codec's commands: ENC (40_codec.md R144), DEC (R150), CHKSTART (R160). None of them reads or
writes a register (10_state.md R30); they are refused before the first RST, as every command is (R342). -/

namespace Sys2Proof.Machine

/-- ENC's frame, or its first failing check: the op code, the data kind, the length (R144). -/
def packFrame (id : NodeId) (op kind : Byte) (payload : Bytes) : Except Status Bytes :=
  match checkedOrdinals op kind with
  | none => .error .errEnum
  | some _ =>
    if payload.length > Config.lMax then .error .errOverflow else .ok (frameBytes id op kind payload)

/-- ENC (R144). -/
def execEnc (id : NodeId) (op kind : Byte) (payload : Bytes) (s : State) : Host.Outcome State Fault Refusal :=
  inSession s <|
    match packFrame id op kind payload with
    | .ok f => s.setOut { okOutputs with frame := some f }
    | .error e => raise e none s

/-- DEC (R150). FLEN is `16 + L` (R101). -/
def execDec (buf : Bytes) (s : State) : Host.Outcome State Fault Refusal :=
  inSession s <|
    match parseFrame buf with
    | .ok p => s.setOut { okOutputs with msg := some (messageOf p), flen := some (Config.ovh + p.len.toNat) }
    | .error e => raiseCodec e s

/-- CHKSTART's bit: at least two bytes, and they hex-decode to the sentinel (R160, D36). -/
def startPresent (buf : Bytes) : Bool :=
  match memRead buf 0, memRead buf 1 with
  | some a, some b => hexByte a b == some Config.sm
  | _, _ => false

/-- CHKSTART (R160). -/
def execChkstart (buf : Bytes) (s : State) : Host.Outcome State Fault Refusal :=
  inSession s (s.setOut { okOutputs with present := some (startPresent buf) })

end Sys2Proof.Machine
end

