-- ==== Sys2Proof/Machine/Session.lean ====
section
/-! DEFINITION. The session state machine's arms: what each op code does in every mode (41_session_fsm.md R203 to R211),
the dispatcher over them (R200), and the timed arms (R213). The instruction meanings call these. -/

namespace Sys2Proof.Machine

/-- GATEWAY_INIT (R203, 90_conflicts.md C1). -/
def onGatewayInit (s : State) : State :=
  match s.mode with
  | .initializing => complete s.confirmGateway
  | .broadcasting | .active | .sensorReporting | .actuating => raise .rejOpmode none s

/-- NODE_INIT on receipt: accepted in no mode (R204). -/
def onNodeInit (s : State) : State := raise .rejOpmode none s

/-- INIT_SUCCESS (R205). -/
def onInitSuccess (s : State) : State :=
  match s.mode with
  | .broadcasting => complete (s.setMode .active)
  | .initializing | .active | .sensorReporting | .actuating => raise .rejOpmode none s

/-- An accepted COMMAND on an actuator node: the request, the mode, the acknowledgment (R206). -/
def applyCommand (kind : DataKind) (payload : Bytes) (s : State) : State :=
  emit .commandExec kind (drawnAnswer (.actuatorApply kind payload) s)
    ((afterDraw (.actuatorApply kind payload) (complete s)).setMode .actuating)

/-- COMMAND (R206). Entering ACTUATING from ACTIVE is a DESIGN CHOICE of the spec (D16); log entry 11. -/
def onCommand (kind : DataKind) (payload : Bytes) (s : State) : State :=
  match s.mode with
  | .active | .actuating =>
    match s.cfgRole with
    | .actuatorNode => applyCommand kind payload s
    | .sensorNode => raise .rejRole none s
  | .initializing | .broadcasting | .sensorReporting => raise .rejOpmode none s

/-- COMMAND_EXEC on receipt: accepted in no mode (R207). -/
def onCommandExec (s : State) : State := raise .rejOpmode none s

/-- SENSOR_DATA_REQ (R208): the report is left to the next TICK (90_conflicts.md C6). -/
def onSensorDataReq (kind : DataKind) (s : State) : State :=
  match s.mode with
  | .active =>
    match s.cfgRole with
    | .sensorNode => complete ((s.setMode .sensorReporting).setPendKind kind)
    | .actuatorNode => raise .rejRole none s
  | .initializing | .broadcasting | .sensorReporting | .actuating => raise .rejOpmode none s

/-- SENSOR_DATA on receipt: accepted in no mode (R209). -/
def onSensorData (s : State) : State := raise .rejOpmode none s

/-- ACK (R210). -/
def onAck (s : State) : State :=
  match s.mode with
  | .active => complete s
  | .initializing | .broadcasting | .sensorReporting | .actuating => raise .rejOpmode none s

/-- UPD's dispatch on the op code (R200, R211). `kind` is read only by COMMAND and SENSOR_DATA_REQ, `payload` only by
COMMAND (D29). -/
def dispatchOp (op : OpCode) (kind : DataKind) (payload : Bytes) (s : State) : State :=
  match op with
  | .gatewayInit => onGatewayInit s
  | .nodeInit => onNodeInit s
  | .initSuccess => onInitSuccess s
  | .command => onCommand kind payload s
  | .commandExec => onCommandExec s
  | .sensorDataReq => onSensorDataReq kind s
  | .sensorData => onSensorData s
  | .ack => onAck s

/-- A message whose op code and data kind are in range: the identity gate, then the dispatch (R200, R313). -/
def update (id : NodeId) (op : OpCode) (kind : DataKind) (payload : Bytes) (s : State) : State :=
  identityGate id (dispatchOp op kind payload) s

/-! ## The timed arms -/

/-- A NODE_INIT announcement: this node's id, CFG_ANNOUNCE_KIND and no payload (R204, D18). -/
def announce (s : State) : State := emit .nodeInit s.cfgAnnounceKind [] s

/-- TICK in INITIALIZING (R213): a confirmed node enters BROADCASTING and announces itself. -/
def tickInitializing (s : State) : State :=
  if s.gwConfirmed then announce (((complete s).setMode .broadcasting).setBcastCnt 0#16) else complete s

/-- TICK in BROADCASTING (R213): counts, and announces every P_BCAST_INTERVAL ticks. The comparison is on exact
integers (00_scope.md R13). -/
def tickBroadcasting (s : State) : State :=
  if s.gwConfirmed then
    if s.bcastCnt.toNat + 1 ≥ s.bcastInterval.toNat then announce ((complete s).setBcastCnt 0#16)
    else (complete s).setBcastCnt (s.bcastCnt + 1#16)
  else complete s

/-- TICK in SENSOR_REPORTING (R213): reads the sensor, returns to ACTIVE, emits SENSOR_DATA. -/
def tickSensorReporting (s : State) : State :=
  emit .sensorData s.pendKind (drawnAnswer (.sensorRead s.pendKind) s)
    ((afterDraw (.sensorRead s.pendKind) (complete s)).setMode .active)

/-- TICK's effect in every mode (R213); ACTIVE and ACTUATING change nothing (D37). -/
def tickArm (s : State) : State :=
  match s.mode with
  | .initializing => tickInitializing s
  | .broadcasting => tickBroadcasting s
  | .sensorReporting => tickSensorReporting s
  | .active | .actuating => complete s

end Sys2Proof.Machine
end

