-- ==== Sys2Proof/Machine/Control.lean ====
section
/-! DEFINITION. The commands that drive the session: RST (70_reset_and_hazards.md R340), UPD (41_session_fsm.md R200), RX
(R215) and TICK (R213). -/

namespace Sys2Proof.Machine

/-- The state RST leaves with a legal announce kind: all nine registers written, a session begun, STATUS OK (R340,
R341, 10_state.md R50). -/
def startSession (cfg : RstCfg) (kind : DataKind) (s : State) : State :=
  { s with
    cfgNodeId := cfg.nodeId
    cfgGwId := cfg.gwId
    cfgRole := cfg.role
    cfgAnnounceKind := kind
    cfgKinds := cfg.kinds
    mode := .initializing
    gwConfirmed := false
    bcastCnt := 0#16
    pendKind := .tempS
    started := true
    out := okOutputs }

/-- RST (R340): admitted in every state, refused where the announce kind is 7. -/
def execRst (cfg : RstCfg) (s : State) : Host.Outcome State Fault Refusal :=
  match announceKindOf cfg.announceKind with
  | some kind => .next (startSession cfg kind s)
  | none => .refused .reservedAnnounceKind

/-- UPD (R200): the enumeration check, then the message in range (R313). The length is not checked again (D39; log
entry 12). -/
def execUpd (msg : Message) (s : State) : Host.Outcome State Fault Refusal :=
  inSession s <|
    match checkedOrdinals msg.op msg.kind with
    | none => raise .errEnum none s
    | some (op, kind) => update msg.id op kind msg.payload s

/-- RX (R215): decode, then update. A failed decode changes nothing and carries its offset (R314). -/
def execRx (buf : Bytes) (s : State) : Host.Outcome State Fault Refusal :=
  inSession s <|
    match parseFrame buf with
    | .error e => raiseCodec e s
    | .ok p => update p.id p.op p.kind p.payload s

/-- TICK (R213). -/
def execTick (s : State) : Host.Outcome State Fault Refusal := inSession s (tickArm s)

end Sys2Proof.Machine
end

