-- ==== Sys2Proof/Machine/Frames.lean ====
section
/-! DEFINITION. The eight frame rows: the receipt of a complete frame with that op code (41_session_fsm.md R203 to R210).
Each passes the identity gate (R201) to its op code's arm; log entry 1. -/

namespace Sys2Proof.Machine

/-- GATEWAY_INIT (R203). -/
def execGatewayInit (id : NodeId) (s : State) : Host.Outcome State Fault Refusal :=
  inSession s (identityGate id onGatewayInit s)

/-- NODE_INIT (R204). -/
def execNodeInit (id : NodeId) (s : State) : Host.Outcome State Fault Refusal :=
  inSession s (identityGate id onNodeInit s)

/-- INIT_SUCCESS (R205). -/
def execInitSuccess (id : NodeId) (s : State) : Host.Outcome State Fault Refusal :=
  inSession s (identityGate id onInitSuccess s)

/-- COMMAND (R206). -/
def execCommand (id : NodeId) (kind : DataKind) (payload : Bytes) (s : State) : Host.Outcome State Fault Refusal :=
  inSession s (identityGate id (onCommand kind payload) s)

/-- COMMAND_EXEC (R207). -/
def execCommandExec (id : NodeId) (s : State) : Host.Outcome State Fault Refusal :=
  inSession s (identityGate id onCommandExec s)

/-- SENSOR_DATA_REQ (R208). -/
def execSensorDataReq (id : NodeId) (kind : DataKind) (s : State) : Host.Outcome State Fault Refusal :=
  inSession s (identityGate id (onSensorDataReq kind) s)

/-- SENSOR_DATA (R209). -/
def execSensorData (id : NodeId) (s : State) : Host.Outcome State Fault Refusal :=
  inSession s (identityGate id onSensorData s)

/-- ACK (R210). -/
def execAck (id : NodeId) (s : State) : Host.Outcome State Fault Refusal :=
  inSession s (identityGate id onAck s)

end Sys2Proof.Machine
end

