-- ==== Sys2Proof/Machine/Dispatch.lean ====
section
/-! DEFINITION. One arm per instruction, each one call of its meaning. -/

namespace Sys2Proof.Machine

def exec (i : Instr) (s : State) : Host.Outcome State Fault Refusal :=
  match i with
  | .gatewayInit id _ _ => Sys2Proof.Machine.execGatewayInit id s
  | .nodeInit id _ _ => Sys2Proof.Machine.execNodeInit id s
  | .initSuccess id _ _ => Sys2Proof.Machine.execInitSuccess id s
  | .command id kind payload => Sys2Proof.Machine.execCommand id kind payload s
  | .commandExec id _ _ => Sys2Proof.Machine.execCommandExec id s
  | .sensorDataReq id kind _ => Sys2Proof.Machine.execSensorDataReq id kind s
  | .sensorData id _ _ => Sys2Proof.Machine.execSensorData id s
  | .ack id _ _ => Sys2Proof.Machine.execAck id s
  | .rst cfg => Sys2Proof.Machine.execRst cfg s
  | .enc id op kind payload => Sys2Proof.Machine.execEnc id op kind payload s
  | .dec buf => Sys2Proof.Machine.execDec buf s
  | .chkstart buf => Sys2Proof.Machine.execChkstart buf s
  | .upd msg => Sys2Proof.Machine.execUpd msg s
  | .rx buf => Sys2Proof.Machine.execRx buf s
  | .tick => Sys2Proof.Machine.execTick s

end Sys2Proof.Machine
end

