-- ==== Sys2Proof/Machine/Reject.lean ====
section
/-! DEFINITION. What a step does with a word that decodes to no instruction. -/

namespace Sys2Proof.Machine

/-- The reserved command code (30_encoding.md R122) and a bundle of the wrong shape (log entry 8) are refused by name. A
received buffer that is not a frame is what RX reports about it: the decode failure, with no state change (41_session_fsm.md
R215; log entry 16). -/
def rejectWord (w : HostWord) (e : DecodeError) (s : State) : Host.Outcome State Fault Refusal :=
  match w, e with
  | .frame buf, _ => execRx buf s
  | .hostCmd code _, .badOperands _ => .refused (.malformedOperands code)
  | .hostCmd _ _, .reservedCode => .refused .reservedCommandCode
  | .hostCmd code _, .notAFrame _ => .refused (.malformedOperands code)

end Sys2Proof.Machine
end

