-- ==== Sys2Proof/Machine/Step.lean ====
section
/-! DEFINITION. One step: take the next word the host issues, decode it, and run it. With nothing issued the block waits
(70_reset_and_hazards.md R345). -/

namespace Sys2Proof.Machine

/-- One step (00_scope.md R8, 20_memory.md R84). -/
def step (s : State) : Host.Outcome State Fault Refusal :=
  match fetch s with
  | none => .next s
  | some (w, t) =>
    match decode w with
    | .ok i => exec i t
    | .error e => rejectWord w e t

/-- `s` with the instruction of a table word issued next, with no draw supplied; log entries 2 and 9. -/
def State.withFetchWord (s : State) (nbits w : Nat) : State :=
  { s with pending := ⟨tableWord nbits w, none⟩ :: s.pending }

end Sys2Proof.Machine
end

