-- ==== Sys2Proof/Machine/Program.lean ====
section
/-! DEFINITION. Host programs (30_encoding.md R123): the lines, the pseudo-instructions RXM and TICKS (R124), and handing
a program to the machine. -/

namespace Sys2Proof.Machine

/-- A line of a host program (R123, R124): a host command with the draw its comment gives, or a pseudo-instruction. -/
inductive Line where
  /-- A host command's word and its draw. -/
  | command (word : HostWord) (draw : Option Bytes)
  /-- `RXM <id>, <op>, <kind>, <bytes>`, with the draw the expanded RX receives. -/
  | rxm (id : NodeId) (op kind : Byte) (payload : Bytes) (draw : Option Bytes)
  /-- `TICKS <k>`, with the draws of the expanded ticks, first tick first. -/
  | ticks (k : Nat) (draws : List (Option Bytes))
deriving DecidableEq, Repr

/-- The `k` TICK lines of `TICKS k`, each with its draw; a tick past the list's end has none (R124). -/
def tickIssues : Nat → List (Option Bytes) → List Issue
  | 0, _ => []
  | k + 1, ds => ⟨encode .tick, ds.headD none⟩ :: tickIssues k ds.tail

/-- What a line issues; `none` where R124 does not define the expansion (RXM where ENC fails, TICKS with k = 0). -/
def Line.expand : Line → Option (List Issue)
  | .command w d => some [⟨w, d⟩]
  | .rxm id op kind payload d =>
    match packFrame id op kind payload with
    | .ok f => some [⟨encode (.rx f), d⟩]
    | .error _ => none
  | .ticks k ds => if k = 0 then none else some (tickIssues k ds)

/-- What a program issues, line after line (R123). -/
def expandProgram : List Line → Option (List Issue)
  | [] => some []
  | l :: ls =>
    match l.expand, expandProgram ls with
    | some xs, some ys => some (xs ++ ys)
    | _, _ => none

/-- The machine with a host program to run: its commands issued after what already stands pending (R123, R352). -/
def State.load (s : State) (issues : List Issue) : State := { s with pending := s.pending ++ issues }

end Sys2Proof.Machine
end

