-- ==== Sys2Proof/Machine/Assembler.lean ====
section
/-! DEFINITION. The text of a host program (30_encoding.md R123, R124): from characters to tokens, from a line's tokens to
a `Line`, from a program's text to what the host issues. What R123 leaves open about the text (spaces, the case of hex
digits) is log entry 20. -/

namespace Sys2Proof.Machine

/-- The tokens of a program line. -/
inductive Token where
  | word (w : List Char)
  | bytes (b : Bytes)
  | comma | equals | plusPlus | lparen | rparen
deriving DecidableEq, Repr

/-- What the lexer is inside of. -/
inductive LexMode where
  | idle
  | word (rev : List Char)
  | quote (rev : Bytes)
  | hexQuote (rev : List Char)
  | plus
deriving DecidableEq, Repr

/-- The byte of an ASCII character (00_scope.md R12). -/
def asciiByte (c : Char) : Option Byte := if c.toNat < 128 then some (BitVec.ofNat 8 c.toNat) else none

/-- A character's hex digit value, uppercase only (R110). -/
def hexCharVal (c : Char) : Option (BitVec 4) :=
  match asciiByte c with
  | some b => hexVal b
  | none => none

/-- The bytes of an `x"31 30 ..."` literal: pairs of hex digits, spaces between them (R123). -/
def hexLiteral : List Char → Option Bytes
  | [] => some []
  | ' ' :: cs => hexLiteral cs
  | a :: b :: cs =>
    match hexCharVal a, hexCharVal b, hexLiteral cs with
    | some h, some l, some bs => some ((16#8 * h.setWidth 8 + l.setWidth 8) :: bs)
    | _, _, _ => none
  | _ => none

/-- The characters of a word: a mnemonic, a name, a numeral. -/
def isWordChar (c : Char) : Bool := c.isAlphanum || c == '_'

/-- The token a character is on its own, and the mode after it, between tokens. -/
def lexStart (c : Char) : Option (Option Token × LexMode) :=
  if c = ' ' then some (none, .idle)
  else if c = ',' then some (some .comma, .idle)
  else if c = '=' then some (some .equals, .idle)
  else if c = '(' then some (some .lparen, .idle)
  else if c = ')' then some (some .rparen, .idle)
  else if c = '+' then some (none, .plus)
  else if c = '"' then some (none, .quote [])
  else if isWordChar c then some (none, .word [c])
  else none

/-- Puts a token before the tokens of the rest. -/
def consToken (t : Option Token) (rest : Option (List Token × List Char)) : Option (List Token × List Char) :=
  match t, rest with
  | _, none => none
  | none, some r => some r
  | some x, some (ts, c) => some (x :: ts, c)

/-- The tokens of a line up to its comment, and the comment's characters (R123: a comment starts with `;`). -/
def lex : List Char → LexMode → Option (List Token × List Char)
  | [], .idle => some ([], [])
  | [], .word rev => some ([.word rev.reverse], [])
  | [], _ => none
  | c :: cs, .idle =>
    if c = ';' then some ([], cs)
    else
      match lexStart c with
      | some (t, m) => consToken t (lex cs m)
      | none => none
  | c :: cs, .word rev =>
    if isWordChar c then lex cs (.word (c :: rev))
    else if c = '"' ∧ rev = ['x'] then lex cs (.hexQuote [])
    else if c = ';' then some ([.word rev.reverse], cs)
    else
      match lexStart c with
      | some (t, m) => consToken (some (.word rev.reverse)) (consToken t (lex cs m))
      | none => none
  | c :: cs, .quote rev =>
    if c = '"' then consToken (some (.bytes rev.reverse)) (lex cs .idle)
    else
      match asciiByte c with
      | some b => lex cs (.quote (b :: rev))
      | none => none
  | c :: cs, .hexQuote rev =>
    if c = '"' then
      match hexLiteral rev.reverse with
      | some b => consToken (some (.bytes b)) (lex cs .idle)
      | none => none
    else lex cs (.hexQuote (c :: rev))
  | c :: cs, .plus => if c = '+' then consToken (some .plusPlus) (lex cs .idle) else none

/-! ## Operands -/

/-- A numeral `0x..` of one or two hex digits (R123). -/
def hexNumeral : List Char → Option Byte
  | ['0', 'x', a] => (hexCharVal a).map fun v => v.setWidth 8
  | ['0', 'x', a, b] =>
    match hexCharVal a, hexCharVal b with
    | some h, some l => some (16#8 * h.setWidth 8 + l.setWidth 8)
    | _, _ => none
  | _ => none

/-- The op codes by name (R111). -/
def opNames : List (String × OpCode) :=
  [("GATEWAY_INIT", .gatewayInit), ("NODE_INIT", .nodeInit), ("INIT_SUCCESS", .initSuccess), ("COMMAND", .command),
    ("COMMAND_EXEC", .commandExec), ("SENSOR_DATA_REQ", .sensorDataReq), ("SENSOR_DATA", .sensorData), ("ACK", .ack)]

/-- The data kinds by name (R112). -/
def kindNames : List (String × DataKind) :=
  [("TEMP_S", .tempS), ("LIGHT_S", .lightS), ("MOIST_S", .moistS), ("MOTION_S", .motionS), ("ACT_1", .act1),
    ("ACT_2", .act2), ("NA", .na)]

/-- The entry of a name. -/
def lookupName {α : Type} (names : List (String × α)) (w : List Char) : Option α :=
  match names with
  | [] => none
  | (n, a) :: rest => if w = n.toList then some a else lookupName rest w

/-- `<op>`: a name or a numeral, which may be reserved (R123). -/
def opOperand (w : List Char) : Option Byte :=
  match lookupName opNames w with
  | some o => some o.toByte
  | none => hexNumeral w

/-- `<kind>`: a name or a numeral, which may be reserved (R123). -/
def kindOperand (w : List Char) : Option Byte :=
  match lookupName kindNames w with
  | some k => some k.toByte
  | none => hexNumeral w

/-- `<id>`: a 4-character literal (R123). -/
def idOperand : Bytes → Option NodeId
  | [a, b, c, d] => some ⟨a, b, c, d⟩
  | _ => none

/-- `<bytes>`: literals joined by `++`, and the tokens after them (R123). -/
def bytesOperand : List Token → Option (Bytes × List Token)
  | .bytes b :: .plusPlus :: rest =>
    match bytesOperand rest with
    | some (more, ts) => some (b ++ more, ts)
    | none => none
  | .bytes b :: rest => some (b, rest)
  | _ => none

/-- `<bytes>` to the end of the line. -/
def lastBytes (ts : List Token) : Option Bytes :=
  match bytesOperand ts with
  | some (b, []) => some b
  | _ => none

/-- `<id>, <op>, <kind>, <bytes>` (R123). -/
def messageOperands : List Token → Option (NodeId × Byte × Byte × Bytes)
  | .bytes i :: .comma :: .word o :: .comma :: .word k :: .comma :: rest =>
    match idOperand i, opOperand o, kindOperand k, lastBytes rest with
    | some id, some op, some kind, some p => some (id, op, kind, p)
    | _, _, _, _ => none
  | _ => none

/-- A role by name (R114). -/
def roleOperand (w : List Char) : Option Role :=
  if w = "SENSOR_NODE".toList then some .sensorNode
  else if w = "ACTUATOR_NODE".toList then some .actuatorNode
  else none

/-- The value of binary digits, most significant first. -/
def binaryValue : List Char → Nat → Option Nat
  | [], acc => some acc
  | c :: cs, acc =>
    if c = '0' then binaryValue cs (2 * acc) else if c = '1' then binaryValue cs (2 * acc + 1) else none

/-- `<7-bit binary>` (R123). -/
def kindsOperand (w : List Char) : Option (BitVec 7) :=
  if w.length = 7 then (binaryValue w 0).map (BitVec.ofNat 7) else none

/-- The value of decimal digits. -/
def decimalValue : List Char → Nat → Option Nat
  | [], acc => some acc
  | c :: cs, acc => if c.isDigit then decimalValue cs (10 * acc + (c.toNat - '0'.toNat)) else none

/-- The decimal count of a TICKS line; a word of no digit is none. -/
def countOperand (w : List Char) : Option Nat :=
  match w with
  | [] => none
  | _ :: _ => decimalValue w 0

/-- `node=<id>, gw=<id>, role=<...>, announce=<kind>, kinds=<7-bit binary>` (R123). -/
def rstOperandsText : List Token → Option RstCfg
  | [.word n, .equals, .bytes ni, .comma, .word g, .equals, .bytes gi, .comma, .word r, .equals, .word rv, .comma,
      .word a, .equals, .word av, .comma, .word k, .equals, .word kv] =>
    if n = "node".toList ∧ g = "gw".toList ∧ r = "role".toList ∧ a = "announce".toList ∧ k = "kinds".toList then
      match idOperand ni, idOperand gi, roleOperand rv, kindOperand av, kindsOperand kv with
      | some node, some gw, some role, some ann, some kinds =>
        if ann < 8#8 then some ⟨node, gw, role, ann.setWidth 3, kinds⟩ else none
      | _, _, _, _, _ => none
    else none
  | _ => none

/-! ## Lines -/

/-- The message of a UPD line, with `L = len(<bytes>)` (R123); a payload past 65535 bytes has no such L. -/
def lineMessage (id : NodeId) (op kind : Byte) (payload : Bytes) : Option Message :=
  if payload.length ≤ Config.lMax then some ⟨id, op, kind, BitVec.ofNat 16 payload.length, payload⟩ else none

/-- A line whose command is this instruction. -/
def lineOf (i : Instr) (draw : Option Bytes) : Line := .command (encode i) draw

/-- A line from its mnemonic, its operand tokens and its draw (R123, R124). -/
def parseCommand (m : List Char) (ts : List Token) (draw : Option Bytes) : Option Line :=
  if m = "RST".toList then (rstOperandsText ts).map fun c => lineOf (.rst c) draw
  else if m = "ENC".toList then (messageOperands ts).map fun (id, op, kind, p) => lineOf (.enc id op kind p) draw
  else if m = "DEC".toList then (lastBytes ts).map fun b => lineOf (.dec b) draw
  else if m = "CHKSTART".toList then (lastBytes ts).map fun b => lineOf (.chkstart b) draw
  else if m = "UPD".toList then
    match messageOperands ts with
    | some (id, op, kind, p) => (lineMessage id op kind p).map fun msg => lineOf (.upd msg) draw
    | none => none
  else if m = "RX".toList then (lastBytes ts).map fun b => lineOf (.rx b) draw
  else if m = "TICK".toList then if ts = [] then some (lineOf .tick draw) else none
  else if m = "RXM".toList then (messageOperands ts).map fun (id, op, kind, p) => .rxm id op kind p draw
  else if m = "TICKS".toList then
    match ts with
    | [.word k] => (countOperand k).map fun n => .ticks n [draw]
    | _ => none
  else none

/-- The draw a comment carries: `draw SensorRead(<kind>) = <bytes>` or `draw ActuatorApply(<kind>, <bytes>) = <bytes>`;
any other comment carries none (R123). -/
def commentDraw (cs : List Char) : Option Bytes :=
  match lex cs .idle with
  | some (.word d :: .word r :: .lparen :: .word k :: .rparen :: .equals :: rest, _) =>
    if d = "draw".toList ∧ r = "SensorRead".toList ∧ (kindOperand k).isSome then lastBytes rest else none
  | some (.word d :: .word r :: .lparen :: .word k :: .comma :: rest, _) =>
    if d = "draw".toList ∧ r = "ActuatorApply".toList ∧ (kindOperand k).isSome then
      match bytesOperand rest with
      | some (_, .rparen :: .equals :: more) => lastBytes more
      | _ => none
    else none
  | _ => none

/-- A line of text: none where it is not of R123's syntax, an empty list where it holds no command. -/
def parseLine (cs : List Char) : Option (List Line) :=
  match lex cs .idle with
  | none => none
  | some ([], _) => some []
  | some (.word m :: ts, comment) =>
    match parseCommand m ts (commentDraw comment) with
    | some l => some [l]
    | none => none
  | some (_ :: _, _) => none

/-- The lines of a program's text. -/
def parseLines : List (List Char) → Option (List Line)
  | [] => some []
  | l :: ls =>
    match parseLine l, parseLines ls with
    | some xs, some ys => some (xs ++ ys)
    | _, _ => none

/-- What a program's text issues (R123, R124). -/
def assemble (text : String) : Option (List Issue) :=
  match parseLines (text.toList.splitOn '\n') with
  | some ls => expandProgram ls
  | none => none

end Sys2Proof.Machine
end

