-- ==== Sys2Proof/Safety.lean ====
section
/-! DEFINITION. The terms claims use: the invariants of 10_state.md R44, the observation of a run (70_reset_and_hazards.md
R352), which of DEC's checks fails first (60_exceptions.md R312), and the link's bound (00_scope.md R9). -/

namespace Sys2Proof.Machine

/-- The invariants R44 (a) to (d) and (f) of a session, for an interval R9 admits. (e) and (g) hold by the types of
`mode` and `pendKind`. -/
structure SessionInv (s : State) : Prop where
  /-- R9: 1 ≤ P_BCAST_INTERVAL. -/
  interval : 1 ≤ s.bcastInterval.toNat
  /-- R44 (a). -/
  unconfirmed : s.gwConfirmed = false → s.mode = .initializing
  /-- R44 (b). -/
  confirmed : s.mode ≠ .initializing → s.gwConfirmed = true
  /-- R44 (c). -/
  reporting : s.mode = .sensorReporting → s.cfgRole = .sensorNode
  /-- R44 (d). -/
  actuating : s.mode = .actuating → s.cfgRole = .actuatorNode
  /-- R44 (f). -/
  count : s.bcastCnt.toNat < s.bcastInterval.toNat

/-- Before the first RST the registers are undefined (R342): the invariants are claimed of a session only. The interval
is a parameter, and holds at all times. -/
def BlockInv (s : State) : Prop := 1 ≤ s.bcastInterval.toNat ∧ (s.started = true → SessionInv s)

/-- Two states hold the same nine registers (10_state.md R30, R50). -/
def sameRegisters (s t : State) : Prop :=
  s.cfgNodeId = t.cfgNodeId ∧ s.cfgGwId = t.cfgGwId ∧ s.cfgRole = t.cfgRole ∧ s.cfgAnnounceKind = t.cfgAnnounceKind ∧
  s.cfgKinds = t.cfgKinds ∧ s.mode = t.mode ∧ s.gwConfirmed = t.gwConfirmed ∧ s.bcastCnt = t.bcastCnt ∧
  s.pendKind = t.pendKind

/-- Two states hold the same configuration registers (10_state.md R33 to R37). -/
def sameConfig (s t : State) : Prop :=
  s.cfgNodeId = t.cfgNodeId ∧ s.cfgGwId = t.cfgGwId ∧ s.cfgRole = t.cfgRole ∧ s.cfgAnnounceKind = t.cfgAnnounceKind ∧
  s.cfgKinds = t.cfgKinds

/-- The outputs of the commands of a run of at most `n` steps, in issue order, ending where nothing is issued or a step
stops (R352). -/
def outputsOf : Nat → State → List Outputs
  | 0, _ => []
  | n + 1, s =>
    match s.pending with
    | [] => []
    | _ :: _ =>
      match step s with
      | .next t => t.out :: outputsOf n t
      | .fault _ => []
      | .refused _ => []

/-- The registers at the end of a run that does not stop, with its outputs: a run's observation (R352). -/
def observe (n : Nat) (s : State) : Option (StateView × List Outputs) :=
  match Host.Core.run Sys2Proof.core n s with
  | .next t => some (t.view, outputsOf n s)
  | .fault _ => none
  | .refused _ => none

/-- A frame within the link's bound (00_scope.md R9, 20_memory.md R83): the caller's duty, and nothing the block checks. -/
def FitsLink (f : Bytes) : Prop := f.length ≤ Config.pMaxBuf

/-- A byte of a buffer, for a check that has the buffer's length before it. -/
def byteAt (buf : Bytes) (i : Nat) : Byte := buf.getD i 0#8

/-- The hex pair at an offset, where both its bytes are digits. -/
def pairAt (buf : Bytes) (k : Nat) : Option Byte := hexByte (byteAt buf k) (byteAt buf (k + 1))

/-- The length the header's pairs at offsets 10 and 12 declare: `lo + 256 * hi` (30_encoding.md R119). -/
def declaredLen (buf : Bytes) : Nat :=
  ((pairAt buf 10).getD 0#8).toNat + 256 * ((pairAt buf 12).getD 0#8).toNat

/-- R312's list: each failure DEC can report with its condition, its code and its INFO, in the order of priority. -/
def decFailures (buf : Bytes) : List (Bool × Status × Nat) :=
  let n := buf.length
  let l := declaredLen buf
  [ (decide (1 ≤ n ∧ byteAt buf 0 ≠ 0x31#8 ∨ 2 ≤ n ∧ byteAt buf 1 ≠ 0x30#8), .errFraming, 0),
    (decide (n < 2), .errTruncation, 0),
    (decide (n < 6), .errTruncation, 2),
    (decide (n < 8), .errTruncation, 6),
    (decide (pairAt buf 6 = none), .errHex, 6),
    (decide (∃ v ∈ pairAt buf 6, 7 < v.toNat), .errEnum, 6),
    (decide (n < 10), .errTruncation, 8),
    (decide (pairAt buf 8 = none), .errHex, 8),
    (decide (∃ v ∈ pairAt buf 8, 6 < v.toNat), .errEnum, 8),
    (decide (n < 12), .errTruncation, 10),
    (decide (pairAt buf 10 = none), .errHex, 10),
    (decide (n < 14), .errTruncation, 12),
    (decide (pairAt buf 12 = none), .errHex, 12),
    (decide (n < 16 + l), .errTruncation, 14),
    (decide (pairAt buf (14 + l) ≠ some 0x16#8), .errFraming, 14 + l) ]

/-- The first failure of a list that holds. -/
def firstFailure : List (Bool × Status × Nat) → Option (Status × Nat)
  | [] => none
  | (true, e, k) :: _ => some (e, k)
  | (false, _, _) :: rest => firstFailure rest

/-- The frame rows by op code: the instruction that is the receipt of a frame with this op code (30_encoding.md R111). -/
def frameInstr (op : OpCode) (id : NodeId) (kind : DataKind) (payload : Bytes) : Instr :=
  ParsedFrame.toInstr ⟨id, op, kind, BitVec.ofNat 16 payload.length, payload⟩

/-- The instruction brings the block this message, op code and data kind in range: the frame row of its op code, UPD of it,
or RX of a buffer that decodes to it (41_session_fsm.md R200, R215; UPD's length is not looked at, log entry 12). -/
def delivers (i : Instr) (id : NodeId) (op : OpCode) (kind : DataKind) (payload : Bytes) : Prop :=
  i = frameInstr op id kind payload ∨
  (∃ m, i = .upd m ∧ m.id = id ∧ m.op = op.toByte ∧ m.kind = kind.toByte ∧ m.payload = payload) ∨
  (∃ buf l, i = .rx buf ∧ parseFrame buf = .ok ⟨id, op, kind, l, payload⟩)

/-- The `(MODE, op)` pairs UPD accepts (41_session_fsm.md R202). -/
def acceptedPairs : List (Mode × OpCode) :=
  [(.initializing, .gatewayInit), (.broadcasting, .initSuccess), (.active, .sensorDataReq), (.active, .ack),
    (.active, .command), (.actuating, .command)]

/-- The two characters of a frame's op_code field (30_encoding.md R105). -/
def opChars : HostWord → Bytes
  | .hostCmd _ _ => []
  | .frame buf => (buf.drop 6).take 2

/-- A host command's 3-bit code (30_encoding.md R121). -/
def commandCode : HostWord → Option (BitVec 3)
  | .hostCmd code _ => some code
  | .frame _ => none

/-- The result of a draw in a state: the answer supplied, else the free value; claims hold for every value of it. -/
def drawResult (r : Request) (s : State) : Bytes := (s.answer).getD (freeAnswer s.drawCount r)

/-- Whether an instruction is RST. -/
def isRst : Instr → Bool
  | .rst _ => true
  | _ => false

/-- Whether a command can stand in a window that a TICK ends: any command but TICK and RST. -/
abbrev inWindow (i : Instr) : Prop := i ≠ .tick ∧ isRst i = false

/-- The state after a list of commands, each with a meaning and a next state. -/
def runInstrs : List Instr → State → Option State
  | [], s => some s
  | i :: is, s =>
    match exec i s with
    | .next t => runInstrs is t
    | .fault _ => none
    | .refused _ => none

end Sys2Proof.Machine
end

