-- ==== Sys2Proof/WellFormed.lean ====
section
/-! DEFINITION. Which instructions are well formed: the operand ranges the types of Syntax leave to a check. -/

namespace Sys2Proof

/-- A payload fits a frame when its length fits the 16-bit length field (30_encoding.md R107, R108). -/
def payloadFits (payload : Bytes) : Bool := payload.length ≤ Config.lMax

/-- A message is one DEC can produce when its length field is its payload's length (00_scope.md R16,
70_reset_and_hazards.md R353). -/
def Message.wf (m : Message) : Bool := m.len.toNat == m.payload.length

/-- Well-formed instructions. A frame's payload fits the length field; RST's announce kind is a data kind (R340);
UPD's message carries its payload's length (R353). ENC, DEC, CHKSTART, RX and TICK take any operands (R46, R78). -/
def Instr.wf : Instr → Bool
  | .gatewayInit _ _ p => payloadFits p
  | .nodeInit _ _ p => payloadFits p
  | .initSuccess _ _ p => payloadFits p
  | .command _ _ p => payloadFits p
  | .commandExec _ _ p => payloadFits p
  | .sensorDataReq _ _ p => payloadFits p
  | .sensorData _ _ p => payloadFits p
  | .ack _ _ p => payloadFits p
  | .rst cfg => cfg.announceKind != 7#3
  | .enc _ _ _ _ => true
  | .dec _ => true
  | .chkstart _ => true
  | .upd m => m.wf
  | .rx _ => true
  | .tick => true

end Sys2Proof
end

