-- ==== Sys2Proof/Certificates/Slice0/Obligations.lean ====
section
/-! DEFINITION. The statements for the provers. -/

open Sys2Proof Sys2Proof.Machine

/-! ## Hex pairs and frames -/

/-- R140 to R143: the digit of every value, the pair of every byte, the value of every character (BAD for lowercase, D9),
HexByte's value, and BAD where a digit is BAD. With them, the sentence that makes the decoder strict: the only two
characters that decode to a byte are that byte's own hex pair. -/
def Obligations.HexPairsAreTheDecodablePairs : Prop :=
  (∀ v : BitVec 4, hexDigit v = BitVec.ofNat 8 (if v.toNat ≤ 9 then 0x30 + v.toNat else 0x41 + (v.toNat - 10))) ∧
  (∀ b : Byte, hexPair b = [hexDigit (BitVec.ofNat 4 (b.toNat / 16)), hexDigit (BitVec.ofNat 4 (b.toNat % 16))]) ∧
  (∀ c : Byte,
    hexVal c =
      if 0x30 ≤ c.toNat ∧ c.toNat ≤ 0x39 then some (BitVec.ofNat 4 (c.toNat - 0x30))
      else if 0x41 ≤ c.toNat ∧ c.toNat ≤ 0x46 then some (BitVec.ofNat 4 (c.toNat - 0x41 + 10))
      else none) ∧
  (∀ a b : Byte,
    hexByte a b = match hexVal a, hexVal b with
      | some h, some l => some (BitVec.ofNat 8 (16 * h.toNat + l.toNat))
      | _, _ => none) ∧
  (∀ b : Byte, hexByte ((hexPair b).getD 0 0#8) ((hexPair b).getD 1 0#8) = some b) ∧
  (∀ a b v : Byte, hexByte a b = some v → [a, b] = hexPair v)

/-- R144: ENC's checks in order, its frame byte for byte, and nothing but the outputs changed. -/
def Obligations.EncResult : Prop :=
  ∀ (id : NodeId) (op kind : Byte) (payload : Bytes) (s : State), s.started = true →
    commandCode (encode (.enc id op kind payload)) = some 1#3 ∧
    exec (.enc id op kind payload) s = .next { s with out :=
      if 7 < op.toNat then { status := .errEnum, report := some .errEnum }
      else if 6 < kind.toNat then { status := .errEnum, report := some .errEnum }
      else if 65535 < payload.length then { status := .errOverflow, report := some .errOverflow }
      else { status := .ok, frame := some ([0x31#8, 0x30#8] ++ [id.b0, id.b1, id.b2, id.b3] ++ hexPair op ++ hexPair kind
        ++ hexPair (BitVec.ofNat 8 payload.length) ++ hexPair (BitVec.ofNat 8 (payload.length / 256))
        ++ payload ++ [0x31#8, 0x36#8]) } }

/-- R100, R103, R109: the seven fields of every frame ENC produces, each at its offset, and the frame's length. -/
def Obligations.EncFrameFieldsAtTheirOffsets : Prop :=
  ∀ (id : NodeId) (op kind : Byte) (payload f : Bytes) (s t : State),
    exec (.enc id op kind payload) s = .next t → t.out.frame = some f →
    f.length = 16 + payload.length ∧
    f.take 2 = [0x31#8, 0x30#8] ∧
    (f.drop 2).take 4 = [id.b0, id.b1, id.b2, id.b3] ∧
    (f.drop 6).take 2 = hexPair op ∧ op.toNat ≤ 7 ∧
    (f.drop 8).take 2 = hexPair kind ∧ kind.toNat ≤ 6 ∧
    (f.drop 10).take 2 = hexPair (BitVec.ofNat 8 payload.length) ∧
    (f.drop 12).take 2 = hexPair (BitVec.ofNat 8 (payload.length / 256)) ∧
    (f.drop 14).take payload.length = payload ∧ payload.length ≤ 65535 ∧
    f.drop (14 + payload.length) = [0x31#8, 0x36#8]

/-- R145: what ENC produces, followed by anything, decodes to ENC's operands, and FLEN is the frame's length. -/
def Obligations.EncThenDecRoundTrip : Prop :=
  ∀ (id : NodeId) (op kind : Byte) (payload : Bytes) (s : State), s.started = true →
    op.toNat ≤ 7 → kind.toNat ≤ 6 → payload.length ≤ 65535 →
    ∃ f : Bytes, exec (.enc id op kind payload) s = .next { s with out := { status := .ok, frame := some f } } ∧
      ∀ trailing : Bytes, exec (.dec (f ++ trailing)) s = .next
        { s with
          out :=
            { status := .ok
              msg := some ⟨id, op, kind, BitVec.ofNat 16 payload.length, payload⟩
              flen := some f.length } }

/-- The other direction (a strict decoder, D9, D10): a buffer DEC accepts begins with a frame of exactly the message it
returns, so DEC accepts nothing ENC could not have produced. -/
def Obligations.DecAcceptsOnlyEncodedFrames : Prop :=
  ∀ (buf : Bytes) (s t : State), exec (.dec buf) s = .next t → t.out.status = .ok →
    ∃ (id : NodeId) (op : OpCode) (kind : DataKind) (payload trailing : Bytes), payload.length ≤ 65535 ∧
      buf = frameBytes id op.toByte kind.toByte payload ++ trailing ∧
      t.out.msg = some ⟨id, op.toByte, kind.toByte, BitVec.ofNat 16 payload.length, payload⟩ ∧
      t.out.flen = some (16 + payload.length)

/-- R150, R312: DEC reports the first failure of the priority list, with its code and INFO; where none holds it returns
the fields at their offsets, with the length read base-256, and FLEN. Only the outputs change. -/
def Obligations.DecReportsTheFirstFailure : Prop :=
  ∀ (buf : Bytes) (s : State), s.started = true →
    commandCode (encode (.dec buf)) = some 2#3 ∧
    exec (.dec buf) s = .next
      { s with
        out :=
          match firstFailure (decFailures buf) with
          | some (e, k) => { status := e, report := some e, info := some k }
          | none =>
            { status := .ok
              msg := some
                { id := ⟨byteAt buf 2, byteAt buf 3, byteAt buf 4, byteAt buf 5⟩
                  op := (pairAt buf 6).getD 0#8
                  kind := (pairAt buf 8).getD 0#8
                  len := BitVec.ofNat 16 (declaredLen buf)
                  payload := (buf.drop 14).take (declaredLen buf) }
              flen := some (16 + declaredLen buf) } }

/-- R151: a start marker that differs in a byte present is ERR_FRAMING(0), whatever follows; a buffer of 0 or 1 bytes that
matches so far is a truncation. -/
def Obligations.DecStartMarkerMismatch : Prop :=
  ∀ (s : State), s.started = true →
    (∀ (a : Byte) (rest : Bytes), a ≠ 0x31#8 → exec (.dec (a :: rest)) s = .next { s with out :=
      { status := .errFraming, report := some .errFraming, info := some 0 } }) ∧
    (∀ (b : Byte) (rest : Bytes), b ≠ 0x30#8 → exec (.dec (0x31#8 :: b :: rest)) s = .next { s with out :=
      { status := .errFraming, report := some .errFraming, info := some 0 } }) ∧
    (∀ buf : Bytes, buf = [] ∨ buf = [0x31#8] → exec (.dec buf) s = .next { s with out :=
      { status := .errTruncation, report := some .errTruncation, info := some 0 } })

/-- R152: with a good header that declares `l`, the end marker is looked for at offset `14 + l` and nowhere else, and a
buffer that does not reach it is a truncation. -/
def Obligations.DecEndMarkerOnlyAtTheDeclaredOffset : Prop :=
  ∀ (id : NodeId) (op : OpCode) (kind : DataKind) (l : Nat) (rest : Bytes) (s : State), s.started = true → l ≤ 65535 →
    let buf := [0x31#8, 0x30#8] ++ [id.b0, id.b1, id.b2, id.b3] ++ hexPair op.toByte ++ hexPair kind.toByte
      ++ hexPair (BitVec.ofNat 8 l) ++ hexPair (BitVec.ofNat 8 (l / 256)) ++ rest;
    (l + 2 ≤ rest.length → (rest.drop l).take 2 ≠ [0x31#8, 0x36#8] → exec (.dec buf) s = .next { s with out :=
      { status := .errFraming, report := some .errFraming, info := some (14 + l) } }) ∧
    (rest.length < l + 2 → exec (.dec buf) s = .next { s with out :=
      { status := .errTruncation, report := some .errTruncation, info := some 14 } })

/-- R153: bytes after a frame that decodes change nothing. -/
def Obligations.DecIgnoresTrailingBytes : Prop :=
  ∀ (f trailing : Bytes) (s t : State), exec (.dec f) s = .next t → t.out.status = .ok → t.out.flen = some f.length →
    exec (.dec (f ++ trailing)) s = .next t

/-- R154: every proper prefix of a frame ENC produces fails with ERR_TRUNCATION. -/
def Obligations.DecOfAProperPrefixTruncates : Prop :=
  ∀ (id : NodeId) (op kind : Byte) (payload f : Bytes) (k : Nat) (s t : State),
    exec (.enc id op kind payload) s = .next t → t.out.frame = some f → k < f.length →
    ∃ offset : Nat, exec (.dec (f.take k)) s = .next { s with out :=
      { status := .errTruncation, report := some .errTruncation, info := some offset } }

/-- R160: PRESENT is 1 exactly when the buffer has two bytes that hex-decode to the sentinel, which are the characters of
its hex pair; STATUS is OK; PRESENT 0 on two bytes or more means DEC fails with ERR_FRAMING(0). -/
def Obligations.ChkstartResult : Prop :=
  ∀ (buf : Bytes) (s : State), s.started = true →
    commandCode (encode (.chkstart buf)) = some 3#3 ∧
    exec (.chkstart buf) s = .next { s with out :=
      { status := .ok, present := some (decide (buf.take 2 = [0x31#8, 0x30#8])) } } ∧
    (buf.take 2 = [0x31#8, 0x30#8] ↔ 2 ≤ buf.length ∧ hexByte (byteAt buf 0) (byteAt buf 1) = some 0x10#8) ∧
    (2 ≤ buf.length → buf.take 2 ≠ [0x31#8, 0x30#8] → exec (.dec buf) s = .next { s with out :=
      { status := .errFraming, report := some .errFraming, info := some 0 } })

/-- The codec commands read no register and write none (10_state.md section 1, 20_memory.md section 3): in any two
sessions they give the same outputs, and change nothing else. -/
def Obligations.CodecCommandsReadAndWriteNoRegister : Prop :=
  ∀ (i : Instr) (s t : State), s.started = true → t.started = true →
    (∃ id op kind p, i = .enc id op kind p) ∨ (∃ buf, i = .dec buf) ∨ (∃ buf, i = .chkstart buf) →
    ∃ o : Outputs, exec i s = .next { s with out := o } ∧ exec i t = .next { t with out := o }

/-! ## UPD and RX -/

/-- R313: UPD's priority. A failure is reported with its code and changes nothing but the outputs; where no check fails,
the STATUS is OK. -/
def Obligations.UpdPriority : Prop :=
  ∀ (m : Message) (s : State), s.started = true →
    ∃ t, exec (.upd m) s = .next t ∧
      (if 7 < m.op.toNat ∨ 6 < m.kind.toNat then
        t = { s with out := { status := .errEnum, report := some .errEnum } }
      else if m.id ≠ s.cfgGwId then
        t = { s with out := { status := .rejIdentity, report := some .rejIdentity } }
      else if ∀ p ∈ acceptedPairs, ¬(p.1 = s.mode ∧ p.2.toByte = m.op) then
        t = { s with out := { status := .rejOpmode, report := some .rejOpmode } }
      else if m.op = OpCode.toByte .command ∧ s.cfgRole ≠ .actuatorNode ∨
          m.op = OpCode.toByte .sensorDataReq ∧ s.cfgRole ≠ .sensorNode then
        t = { s with out := { status := .rejRole, report := some .rejRole } }
      else t.out.status = .ok)

/-- R211: the transition matrix, for a message from the gateway whose op code and data kind are in range, and REJ_IDENTITY
in every cell for any other sender. The COMMAND cells emit COMMAND_EXEC with the actuator's answer, or report the overflow
where it does not fit a frame; they hold for every answer. -/
def Obligations.UpdTransitionMatrix : Prop :=
  ∀ (id : NodeId) (op : OpCode) (kind : DataKind) (payload : Bytes) (l : BitVec 16) (s : State), s.started = true →
    let r := drawResult (.actuatorApply kind payload) s;
    let opm := { s with out := { status := .rejOpmode, report := some .rejOpmode } };
    let role := { s with out := { status := .rejRole, report := some .rejRole } };
    let applied :=
      { s with
        mode := .actuating
        answer := none
        drawCount := s.drawCount + 1
        out :=
          { status := .ok
            request := some (.actuatorApply kind payload)
            report := if 65535 < r.length then some .errOverflow else none
            tx := if 65535 < r.length then none
              else some (frameBytes s.cfgNodeId (OpCode.toByte .commandExec) kind.toByte r) } };
    exec (.upd ⟨id, op.toByte, kind.toByte, l, payload⟩) s = .next
      (if id ≠ s.cfgGwId then { s with out := { status := .rejIdentity, report := some .rejIdentity } }
      else
        match s.mode, op, s.cfgRole with
        | .initializing, .gatewayInit, _ => { s with gwConfirmed := true, out := { status := .ok } }
        | .broadcasting, .initSuccess, _ => { s with mode := .active, out := { status := .ok } }
        | .active, .command, .actuatorNode => applied
        | .active, .command, .sensorNode => role
        | .active, .sensorDataReq, .sensorNode =>
          { s with mode := .sensorReporting, pendKind := kind, out := { status := .ok } }
        | .active, .sensorDataReq, .actuatorNode => role
        | .active, .ack, _ => { s with out := { status := .ok } }
        | .actuating, .command, .actuatorNode => applied
        | .actuating, .command, .sensorNode => role
        | _, _, _ => opm)

/-- UPD on a message in range does what the frame row of its op code does (41_session_fsm.md sections 1 and 2), whatever
its L (D39). -/
def Obligations.UpdRunsTheFrameRowOfItsOpCode : Prop :=
  ∀ (m : Message) (op : OpCode) (kind : DataKind) (s : State), op.toByte = m.op → kind.toByte = m.kind →
    exec (.upd m) s = exec (frameInstr op m.id kind m.payload) s

/-- RX of a frame, followed by anything, is the receipt of that frame (00_scope.md section 1, 41_session_fsm.md section 6;
a second frame in the buffer is not processed, D31), and in a session it completes. -/
def Obligations.RxOfAFrameIsItsReceipt : Prop :=
  ∀ (op : OpCode) (id : NodeId) (kind : DataKind) (payload trailing : Bytes) (s : State), payload.length ≤ 65535 →
    exec (.rx (frameBytes id op.toByte kind.toByte payload ++ trailing)) s = exec (frameInstr op id kind payload) s ∧
    (s.started = true → ∃ t, exec (.rx (frameBytes id op.toByte kind.toByte payload ++ trailing)) s = .next t ∧
      t.out.info = none ∧ t.out.msg = none ∧ t.out.flen = none)

/-- R215, R314: RX is DEC and then UPD of the decoded message. Where DEC fails, RX ends as DEC does, with INFO and no
state change; where it succeeds, RX is UPD of MSG. -/
def Obligations.RxIsDecThenUpd : Prop :=
  ∀ (buf : Bytes) (s : State), s.started = true →
    commandCode (encode (.rx buf)) = some 5#3 ∧
    ∃ o : Outputs, exec (.dec buf) s = .next { s with out := o } ∧
      (o.status ≠ .ok → o.msg = none ∧ o.info ≠ none ∧ exec (.rx buf) s = .next { s with out := o }) ∧
      (o.status = .ok → ∃ m t, o.msg = some m ∧ exec (.upd m) s = .next t ∧ exec (.rx buf) s = .next t)

/-! ## The eight frame rows -/

/-- R203. -/
def Obligations.GatewayInitResult : Prop :=
  ∀ (id : NodeId) (kind : DataKind) (payload : Bytes) (s : State), s.started = true →
    opChars (encode (.gatewayInit id kind payload)) = [0x30#8, 0x30#8] ∧
    exec (.gatewayInit id kind payload) s = .next
      (if id ≠ s.cfgGwId then { s with out := { status := .rejIdentity, report := some .rejIdentity } }
      else if s.mode = .initializing then { s with gwConfirmed := true, out := { status := .ok } }
      else { s with out := { status := .rejOpmode, report := some .rejOpmode } })

/-- R204: rejected in every mode on receipt; on emission, TICK's announcement, byte for byte. -/
def Obligations.NodeInitResult : Prop :=
  ∀ (id : NodeId) (kind : DataKind) (payload : Bytes) (s : State), s.started = true →
    opChars (encode (.nodeInit id kind payload)) = [0x30#8, 0x31#8] ∧
    exec (.nodeInit id kind payload) s = .next
      (if id ≠ s.cfgGwId then { s with out := { status := .rejIdentity, report := some .rejIdentity } }
      else { s with out := { status := .rejOpmode, report := some .rejOpmode } }) ∧
    (s.mode = .initializing → s.gwConfirmed = true → ∃ t, exec .tick s = .next t ∧
      t.out.tx = some ([0x31#8, 0x30#8] ++ [s.cfgNodeId.b0, s.cfgNodeId.b1, s.cfgNodeId.b2, s.cfgNodeId.b3]
        ++ [0x30#8, 0x31#8] ++ hexPair s.cfgAnnounceKind.toByte ++ [0x30#8, 0x30#8, 0x30#8, 0x30#8, 0x31#8, 0x36#8]))

/-- R205. -/
def Obligations.InitSuccessResult : Prop :=
  ∀ (id : NodeId) (kind : DataKind) (payload : Bytes) (s : State), s.started = true →
    opChars (encode (.initSuccess id kind payload)) = [0x30#8, 0x32#8] ∧
    exec (.initSuccess id kind payload) s = .next
      (if id ≠ s.cfgGwId then { s with out := { status := .rejIdentity, report := some .rejIdentity } }
      else if s.mode = .broadcasting then { s with mode := .active, out := { status := .ok } }
      else { s with out := { status := .rejOpmode, report := some .rejOpmode } })

/-- R206: the mode, the role guard, the request, the new mode and the acknowledgment; with an answer too long for a frame
the mode change stands and no TX is produced. -/
def Obligations.CommandResult : Prop :=
  ∀ (id : NodeId) (kind : DataKind) (payload : Bytes) (s : State), s.started = true →
    opChars (encode (.command id kind payload)) = [0x30#8, 0x33#8] ∧
    exec (.command id kind payload) s = .next
      (if id ≠ s.cfgGwId then { s with out := { status := .rejIdentity, report := some .rejIdentity } }
      else if s.mode ≠ .active ∧ s.mode ≠ .actuating then
        { s with out := { status := .rejOpmode, report := some .rejOpmode } }
      else if s.cfgRole ≠ .actuatorNode then { s with out := { status := .rejRole, report := some .rejRole } }
      else
        let r := drawResult (.actuatorApply kind payload) s
        { s with
          mode := .actuating
          answer := none
          drawCount := s.drawCount + 1
          out :=
            { status := .ok
              request := some (.actuatorApply kind payload)
              report := if 65535 < r.length then some .errOverflow else none
              tx := if 65535 < r.length then none
                else some (frameBytes s.cfgNodeId (OpCode.toByte .commandExec) kind.toByte r) } })

/-- R207: rejected in every mode on receipt; on emission, COMMAND's acknowledgment, byte for byte. -/
def Obligations.CommandExecResult : Prop :=
  ∀ (id : NodeId) (kind : DataKind) (payload : Bytes) (s : State), s.started = true →
    opChars (encode (.commandExec id kind payload)) = [0x30#8, 0x34#8] ∧
    exec (.commandExec id kind payload) s = .next
      (if id ≠ s.cfgGwId then { s with out := { status := .rejIdentity, report := some .rejIdentity } }
      else { s with out := { status := .rejOpmode, report := some .rejOpmode } }) ∧
    (∀ r : Bytes, s.mode = .active ∨ s.mode = .actuating → s.cfgRole = .actuatorNode → s.answer = some r →
      r.length ≤ 65535 → ∃ t, exec (.command s.cfgGwId kind payload) s = .next t ∧
        t.out.tx = some ([0x31#8, 0x30#8] ++ [s.cfgNodeId.b0, s.cfgNodeId.b1, s.cfgNodeId.b2, s.cfgNodeId.b3]
          ++ [0x30#8, 0x34#8] ++ hexPair kind.toByte ++ hexPair (BitVec.ofNat 8 r.length)
          ++ hexPair (BitVec.ofNat 8 (r.length / 256)) ++ r ++ [0x31#8, 0x36#8]))

/-- R208. -/
def Obligations.SensorDataReqResult : Prop :=
  ∀ (id : NodeId) (kind : DataKind) (payload : Bytes) (s : State), s.started = true →
    opChars (encode (.sensorDataReq id kind payload)) = [0x30#8, 0x35#8] ∧
    exec (.sensorDataReq id kind payload) s = .next
      (if id ≠ s.cfgGwId then { s with out := { status := .rejIdentity, report := some .rejIdentity } }
      else if s.mode ≠ .active then { s with out := { status := .rejOpmode, report := some .rejOpmode } }
      else if s.cfgRole ≠ .sensorNode then { s with out := { status := .rejRole, report := some .rejRole } }
      else { s with mode := .sensorReporting, pendKind := kind, out := { status := .ok } })

/-- R209: rejected in every mode on receipt; on emission, TICK's report of the sensor's text, byte for byte. -/
def Obligations.SensorDataResult : Prop :=
  ∀ (id : NodeId) (kind : DataKind) (payload : Bytes) (s : State), s.started = true →
    opChars (encode (.sensorData id kind payload)) = [0x30#8, 0x36#8] ∧
    exec (.sensorData id kind payload) s = .next
      (if id ≠ s.cfgGwId then { s with out := { status := .rejIdentity, report := some .rejIdentity } }
      else { s with out := { status := .rejOpmode, report := some .rejOpmode } }) ∧
    (∀ v : Bytes, s.mode = .sensorReporting → s.answer = some v → v.length ≤ 65535 →
      ∃ t, exec .tick s = .next t ∧
        t.out.tx = some ([0x31#8, 0x30#8] ++ [s.cfgNodeId.b0, s.cfgNodeId.b1, s.cfgNodeId.b2, s.cfgNodeId.b3]
          ++ [0x30#8, 0x36#8] ++ hexPair s.pendKind.toByte ++ hexPair (BitVec.ofNat 8 v.length)
          ++ hexPair (BitVec.ofNat 8 (v.length / 256)) ++ v ++ [0x31#8, 0x36#8]))

/-- R210. -/
def Obligations.AckResult : Prop :=
  ∀ (id : NodeId) (kind : DataKind) (payload : Bytes) (s : State), s.started = true →
    opChars (encode (.ack id kind payload)) = [0x30#8, 0x37#8] ∧
    exec (.ack id kind payload) s = .next
      (if id ≠ s.cfgGwId then { s with out := { status := .rejIdentity, report := some .rejIdentity } }
      else if s.mode = .active then { s with out := { status := .ok } }
      else { s with out := { status := .rejOpmode, report := some .rejOpmode } })

/-- R201, R219: a message whose node_id is not the gateway's is rejected, in every mode, for every op code, by UPD, by RX
and as a frame row, with no register written, no draw and no emission. -/
def Obligations.IdentityGateRejectsEveryOtherSender : Prop :=
  ∀ (op : OpCode) (id : NodeId) (kind : DataKind) (payload trailing : Bytes) (l : BitVec 16) (s : State),
    s.started = true → id ≠ s.cfgGwId → payload.length ≤ 65535 →
    let t := { s with out := { status := .rejIdentity, report := some .rejIdentity } };
    exec (.upd ⟨id, op.toByte, kind.toByte, l, payload⟩) s = .next t ∧
    exec (.rx (frameBytes id op.toByte kind.toByte payload ++ trailing)) s = .next t ∧
    exec (frameInstr op id kind payload) s = .next t

/-- R202: the six accepted pairs. A message from the gateway is rejected with REJ_OPMODE, and with no state change, exactly
where its pair is none of them. -/
def Obligations.UpdAcceptsExactlySixPairs : Prop :=
  ∀ (op : OpCode) (kind : DataKind) (payload : Bytes) (l : BitVec 16) (s : State), s.started = true →
    let i := Instr.upd ⟨s.cfgGwId, op.toByte, kind.toByte, l, payload⟩;
    let rejected := { s with out := { status := .rejOpmode, report := some .rejOpmode } };
    (exec i s = .next rejected ↔
      (s.mode, op) ∉ [(Mode.initializing, OpCode.gatewayInit), (.broadcasting, .initSuccess), (.active, .sensorDataReq),
        (.active, .ack), (.active, .command), (.actuating, .command)]) ∧
    (∀ t, exec i s = .next t → t.out.status = .rejOpmode → t = rejected)

/-! ## TICK and RST -/

/-- R213: TICK in every mode. -/
def Obligations.TickResult : Prop :=
  ∀ (s : State), s.started = true →
    encode .tick = .hostCmd 6#3 [] ∧
    exec .tick s = .next
      (match s.mode with
      | .initializing =>
        if s.gwConfirmed then
          { s with mode := .broadcasting, bcastCnt := 0#16,
                   out := { status := .ok, tx := some (frameBytes s.cfgNodeId 0x01#8 s.cfgAnnounceKind.toByte []) } }
        else { s with out := { status := .ok } }
      | .broadcasting =>
        if s.gwConfirmed then
          if s.bcastInterval.toNat ≤ s.bcastCnt.toNat + 1 then
            { s with bcastCnt := 0#16,
                     out := { status := .ok, tx := some (frameBytes s.cfgNodeId 0x01#8 s.cfgAnnounceKind.toByte []) } }
          else { s with bcastCnt := BitVec.ofNat 16 (s.bcastCnt.toNat + 1), out := { status := .ok } }
        else { s with out := { status := .ok } }
      | .sensorReporting =>
        let v := drawResult (.sensorRead s.pendKind) s
        { s with
          mode := .active
          answer := none
          drawCount := s.drawCount + 1
          out :=
            { status := .ok
              request := some (.sensorRead s.pendKind)
              report := if 65535 < v.length then some .errOverflow else none
              tx := if 65535 < v.length then none else some (frameBytes s.cfgNodeId 0x06#8 s.pendKind.toByte v) } }
      | .active => { s with out := { status := .ok } }
      | .actuating => { s with out := { status := .ok } })

/-- R306: ERR_OVERFLOW, as ENC's STATUS, and as the REPORT of an emission whose draw does not fit a frame: no TX, STATUS
OK, and the emitting command's state change stands. -/
def Obligations.OverflowKeepsTheStateChange : Prop :=
  (∀ (id : NodeId) (op : OpCode) (kind : DataKind) (payload : Bytes) (s : State), s.started = true →
    65535 < payload.length → exec (.enc id op.toByte kind.toByte payload) s = .next { s with out :=
      { status := .errOverflow, report := some .errOverflow } }) ∧
  (∀ (kind : DataKind) (payload r : Bytes) (s : State), s.started = true → s.mode = .active ∨ s.mode = .actuating →
    s.cfgRole = .actuatorNode → s.answer = some r → 65535 < r.length →
    exec (.command s.cfgGwId kind payload) s = .next
      { s with mode := .actuating, answer := none, drawCount := s.drawCount + 1,
               out := { status := .ok, report := some .errOverflow, request := some (.actuatorApply kind payload) } }) ∧
  (∀ (v : Bytes) (s : State), s.started = true → s.mode = .sensorReporting → s.answer = some v → 65535 < v.length →
    exec .tick s = .next
      { s with mode := .active, answer := none, drawCount := s.drawCount + 1,
               out := { status := .ok, report := some .errOverflow, request := some (.sensorRead s.pendKind) } })

/-- R340: RST writes all nine registers in every state, whether or not a session has begun; announce_kind 7 is refused. -/
def Obligations.RstResult : Prop :=
  ∀ (cfg : RstCfg) (s : State),
    commandCode (encode (.rst cfg)) = some 0#3 ∧
    (∀ kind : DataKind, kind.toByte = cfg.announceKind.setWidth 8 → exec (.rst cfg) s = .next
      { s with
        cfgNodeId := cfg.nodeId
        cfgGwId := cfg.gwId
        cfgRole := cfg.role
        cfgAnnounceKind := kind
        cfgKinds := cfg.kinds
        mode := .initializing
        gwConfirmed := false
        bcastCnt := 0#16
        pendKind := .tempS
        started := true
        out := { status := .ok } }) ∧
    (cfg.announceKind.toNat ≤ 6 → ∃ kind : DataKind, kind.toByte = cfg.announceKind.setWidth 8) ∧
    (cfg.announceKind = 7#3 → exec (.rst cfg) s = .refused .reservedAnnounceKind)

/-- R342: before the first RST every command but RST is refused, the codec's among them. -/
def Obligations.BeforeTheFirstRstOnlyRst : Prop :=
  ∀ (i : Instr) (s : State), s.started = false → isRst i = false → exec i s = .refused .beforeFirstRst

/-- In a session every instruction has a next state; only RST's reserved announce kind has none (60_exceptions.md
section 1: every failure is a status). -/
def Obligations.InASessionEveryCommandCompletes : Prop :=
  ∀ (i : Instr) (s : State), s.started = true → (∀ cfg, i = .rst cfg → cfg.announceKind ≠ 7#3) →
    ∃ t, exec i s = .next t ∧ t.started = true ∧ t.pending = s.pending

/-- State.reset is the state RST leaves, in the state view, for the configuration CFG-S. The configuration is the model's
choice (log entry 3). -/
def Obligations.ResetIsTheStateRstLeaves : Prop :=
  State.reset.view =
    { cfgNodeId := ⟨0x31#8, 0x31#8, 0x30#8, 0x31#8⟩, cfgGwId := ⟨0x30#8, 0x30#8, 0x30#8, 0x31#8⟩, cfgRole := 0#1,
      cfgAnnounceKind := 0#3, cfgKinds := 1#7, mode := 0#3, gwConfirmed := 0#1, bcastCnt := 0#16, pendKind := 0#3 } ∧
  ∀ s : State, ∃ t, exec (.rst State.resetCfg) s = .next t ∧ t.view = State.reset.view ∧ t.out = State.reset.out ∧
    t.started = State.reset.started

/-- The numbers of the status codes (60_exceptions.md section 1, D7), the modes (30_encoding.md section 2, D5) and the roles
(D6), and the state view with them: every register, in the spec's widths (10_state.md section 5). -/
def Obligations.EncodingsOfStatusModeAndRole : Prop :=
  (Status.code .ok = 0#4 ∧ Status.code .errFraming = 1#4 ∧ Status.code .errTruncation = 2#4 ∧ Status.code .errHex = 3#4 ∧
    Status.code .errEnum = 4#4 ∧ Status.code .errOverflow = 5#4 ∧ Status.code .rejIdentity = 6#4 ∧
    Status.code .rejOpmode = 7#4 ∧ Status.code .rejRole = 8#4) ∧
  (Mode.code .initializing = 0#3 ∧ Mode.code .broadcasting = 1#3 ∧ Mode.code .active = 2#3 ∧
    Mode.code .sensorReporting = 3#3 ∧ Mode.code .actuating = 4#3) ∧
  (Role.toBit .sensorNode = 0#1 ∧ Role.toBit .actuatorNode = 1#1 ∧ ∀ r : Role, Role.ofBit r.toBit = r) ∧
  ∀ s : State, s.view =
    { cfgNodeId := s.cfgNodeId
      cfgGwId := s.cfgGwId
      cfgRole := s.cfgRole.toBit
      cfgAnnounceKind := BitVec.ofNat 3 s.cfgAnnounceKind.toByte.toNat
      cfgKinds := s.cfgKinds
      mode := s.mode.code
      gwConfirmed := if s.gwConfirmed then 1#1 else 0#1
      bcastCnt := s.bcastCnt
      pendKind := BitVec.ofNat 3 s.pendKind.toByte.toNat }

/-! ## Invariants and whole-machine rules -/

/-- The invariants of R44 hold at reset (with the configuration of log entry 3). -/
def Obligations.InvariantsHoldAtReset : Prop := BlockInv State.reset ∧ SessionInv State.reset

/-- RST establishes the invariants of R44 in every state with an interval R9 admits. -/
def Obligations.RstEstablishesTheInvariants : Prop :=
  ∀ (cfg : RstCfg) (s t : State), 1 ≤ s.bcastInterval.toNat → exec (.rst cfg) s = .next t → SessionInv t ∧ BlockInv t

/-- R44: every step keeps the invariants. -/
def Obligations.EveryStepKeepsTheInvariants : Prop :=
  ∀ s t : State, BlockInv s → step s = .next t → BlockInv t

/-- R38: no command but RST writes a configuration register; and no command writes the interval or what the host has yet
to issue (00_scope.md R9 fixes the interval for a model instance). -/
def Obligations.ConfigurationIsImmutableAfterRst : Prop :=
  ∀ (i : Instr) (s t : State), exec i s = .next t →
    (isRst i = false → sameConfig s t) ∧ t.bcastInterval = s.bcastInterval ∧ t.pending = s.pending

/-- R40: GW_CONFIRMED is set only by an accepted GATEWAY_INIT in INITIALIZING, and cleared only by RST. -/
def Obligations.GatewayConfirmedWriters : Prop :=
  ∀ (i : Instr) (s t : State), exec i s = .next t →
    (s.gwConfirmed = true → t.gwConfirmed = false → isRst i = true) ∧
    (s.gwConfirmed = false → t.gwConfirmed = true → s.mode = .initializing ∧ ∃ kind payload,
      (i = .gatewayInit s.cfgGwId kind payload ∨
        (∃ m, i = .upd m ∧ m.id = s.cfgGwId ∧ m.op = 0x00#8 ∧ m.kind = kind.toByte ∧ m.payload = payload) ∨
        (∃ buf l, i = .rx buf ∧ parseFrame buf = .ok ⟨s.cfgGwId, .gatewayInit, kind, l, payload⟩))) ∧
    (isRst i = true → t.gwConfirmed = false)

/-- The mode graph (10_state.md sections 3 and 6, 41_session_fsm.md sections 3 and 5): MODE changes only along these
edges, each by the command named: RST, TICK, or a message of that op code from the gateway. ACTUATING is left only by RST
(D38); the codec commands never change it. -/
def Obligations.ModeChangesOnlyAlongItsEdges : Prop :=
  ∀ (i : Instr) (s t : State), exec i s = .next t → t.mode ≠ s.mode →
    (isRst i = true ∧ t.mode = .initializing) ∨
    (i = .tick ∧ s.mode = .initializing ∧ s.gwConfirmed = true ∧ t.mode = .broadcasting) ∨
    (i = .tick ∧ s.mode = .sensorReporting ∧ t.mode = .active) ∨
    (s.mode = .broadcasting ∧ t.mode = .active ∧ ∃ kind payload, delivers i s.cfgGwId .initSuccess kind payload) ∨
    (s.mode = .active ∧ t.mode = .sensorReporting ∧ s.cfgRole = .sensorNode ∧
      ∃ kind payload, delivers i s.cfgGwId .sensorDataReq kind payload) ∨
    (s.mode = .active ∧ t.mode = .actuating ∧ s.cfgRole = .actuatorNode ∧
      ∃ kind payload, delivers i s.cfgGwId .command kind payload)

/-- Who writes the counter and the latched kind, and with what (10_state.md sections 3 and 6): BCAST_CNT only RST, the TICK
that enters BROADCASTING, and TICK in BROADCASTING; PEND_KIND only RST and an accepted SENSOR_DATA_REQ, with its kind. -/
def Obligations.CounterAndLatchWriters : Prop :=
  ∀ (i : Instr) (s t : State), exec i s = .next t →
    (t.bcastCnt ≠ s.bcastCnt →
      (isRst i = true ∧ t.bcastCnt = 0#16) ∨
      (i = .tick ∧ s.mode = .initializing ∧ t.mode = .broadcasting ∧ t.bcastCnt = 0#16) ∨
      (i = .tick ∧ s.mode = .broadcasting ∧ t.bcastCnt.toNat =
        if s.bcastInterval.toNat ≤ s.bcastCnt.toNat + 1 then 0 else s.bcastCnt.toNat + 1)) ∧
    (t.pendKind ≠ s.pendKind →
      (isRst i = true ∧ t.pendKind = .tempS) ∨
      (s.mode = .active ∧ t.mode = .sensorReporting ∧ s.cfgRole = .sensorNode ∧
        ∃ payload, delivers i s.cfgGwId .sensorDataReq t.pendKind payload))

/-- R315, R218: a command that fails or is rejected leaves everything but the outputs as it was, requests no draw and
produces no frame; its outputs are its own code, as STATUS and REPORT, and INFO exactly where a buffer does not decode; and
the one partial outcome is the emission's overflow, a REPORT with STATUS OK and no TX. -/
def Obligations.FailuresArePrecise : Prop :=
  ∀ (i : Instr) (s t : State), exec i s = .next t →
    (t.out.status ≠ .ok → t = { s with out := t.out } ∧ t.out.request = none ∧ t.out.tx = none ∧ t.out.frame = none ∧
      t.out.msg = none ∧ t.out.flen = none ∧ t.out.present = none ∧ t.out.report = some t.out.status) ∧
    (∀ k, t.out.info = some k ↔ ∃ buf e, (i = .dec buf ∨ i = .rx buf) ∧ parseFrame buf = .error e ∧ k = errorOffset e) ∧
    (t.out.status = .ok → t.out.report ≠ none →
      t.out.report = some .errOverflow ∧ t.out.tx = none ∧ t.out.request ≠ none)

/-- R217: only an accepted COMMAND and the three arms of TICK emit. -/
def Obligations.OnlyCommandAndTickEmit : Prop :=
  ∀ (i : Instr) (s t : State), exec i s = .next t → t.out.tx ≠ none →
    (i = .tick ∧ (s.mode = .initializing ∧ s.gwConfirmed = true ∨
      s.mode = .broadcasting ∧ s.bcastInterval.toNat ≤ s.bcastCnt.toNat + 1 ∨ s.mode = .sensorReporting)) ∨
    ((s.mode = .active ∨ s.mode = .actuating) ∧ s.cfgRole = .actuatorNode ∧ ∃ kind payload,
      (i = .command s.cfgGwId kind payload ∨
        (∃ m, i = .upd m ∧ m.id = s.cfgGwId ∧ m.op = 0x03#8 ∧ m.kind = kind.toByte ∧ m.payload = payload) ∨
        (∃ buf l, i = .rx buf ∧ parseFrame buf = .ok ⟨s.cfgGwId, .command, kind, l, payload⟩)))

/-- The collaborator requests (20_memory.md section 3, 60_exceptions.md section 7): SensorRead only by TICK in
SENSOR_REPORTING, of PEND_KIND; ActuatorApply only by a COMMAND from the gateway on an actuator node in ACTIVE or
ACTUATING, of that command's data kind and payload; and the draw counter, the model's own (log entry 5), moves exactly
when a request is made. -/
def Obligations.RequestsAreMadeOnlyWhereTheRulesSay : Prop :=
  ∀ (i : Instr) (s t : State), exec i s = .next t →
    (∀ k, t.out.request = some (.sensorRead k) → i = .tick ∧ s.mode = .sensorReporting ∧ k = s.pendKind) ∧
    (∀ k c, t.out.request = some (.actuatorApply k c) →
      (s.mode = .active ∨ s.mode = .actuating) ∧ s.cfgRole = .actuatorNode ∧ t.mode = .actuating ∧
        delivers i s.cfgGwId .command k c) ∧
    (t.out.request = none → t.drawCount = s.drawCount ∧ t.answer = s.answer) ∧
    (t.out.request ≠ none → t.drawCount = s.drawCount + 1 ∧ t.answer = none)

/-- R37: CFG_KINDS guards nothing. Whatever it holds, every command but RST does the same and leaves it alone. -/
def Obligations.KindSetGuardsNothing : Prop :=
  ∀ (i : Instr) (s : State) (k : BitVec 7), isRst i = false →
    exec i { s with cfgKinds := k } =
      match exec i s with
      | .next t => .next { t with cfgKinds := k }
      | .fault r => .fault r
      | .refused r => .refused r

/-- R45: the outputs of a command are never read by the next one. -/
def Obligations.OutputsAreNeverReadBack : Prop :=
  ∀ (i : Instr) (s : State) (o : Outputs), exec i { s with out := o } = exec i s

/-- R216: the observation of a run is a function of the registers it starts in, the commands and the draws. The draws are
those the commands carry; where every command carries its own, or where the two runs stand at the same free values (the
same number of draws taken, log entry 5), nothing else in the state matters: neither the outputs before the run nor an
answer left at hand. -/
def Obligations.RunsDependOnRegistersCommandsAndDraws : Prop :=
  ∀ (n : Nat) (s t : State), sameRegisters s t → s.started = t.started → s.bcastInterval = t.bcastInterval →
    s.pending = t.pending → ((∀ x ∈ s.pending, x.draw.isSome = true) ∨ s.drawCount = t.drawCount) →
    outputsOf n s = outputsOf n t ∧ observe n s = observe n t

/-- R214: the broadcast cadence. From a confirmed INITIALIZING node, the tick that enters BROADCASTING announces; then,
whatever commands but RST come between, while MODE stays BROADCASTING the counter is the number of ticks since modulo the
interval, and a tick announces exactly when that is 0. -/
def Obligations.BroadcastCadence : Prop :=
  ∀ (is : List Instr) (s t : State), s.started = true → s.mode = .initializing → s.gwConfirmed = true →
    1 ≤ s.bcastInterval.toNat → (∀ i ∈ is, isRst i = false) → runInstrs (.tick :: is) s = some t →
    t.mode = .broadcasting →
    t.bcastCnt.toNat = is.count .tick % s.bcastInterval.toNat ∧
    ((Instr.tick :: is).getLast? = some .tick →
      t.out.tx = if is.count .tick % s.bcastInterval.toNat = 0
        then some (frameBytes s.cfgNodeId 0x01#8 s.cfgAnnounceKind.toByte []) else none)

/-- R347: after an accepted GATEWAY_INIT, whatever commands but TICK and RST come, MODE stays INITIALIZING, nothing has been
emitted, and an INIT_SUCCESS is rejected and lost; the TICK that ends the window emits NODE_INIT, and after it an
INIT_SUCCESS is accepted. -/
def Obligations.ConfirmationNeedsATick : Prop :=
  ∀ (i : Instr) (kind : DataKind) (payload : Bytes) (window : List Instr) (s t : State), s.started = true →
    s.mode = .initializing → delivers i s.cfgGwId .gatewayInit kind payload → exec i s = .next t →
    (∀ j ∈ window, inWindow j) →
    ∃ u, runInstrs window t = some u ∧ u.mode = .initializing ∧ u.out.tx = none ∧
      (∀ j k p, delivers j s.cfgGwId .initSuccess k p → exec j u = .next { u with out :=
        { status := .rejOpmode, report := some .rejOpmode } }) ∧
      ∃ v, exec .tick u = .next v ∧ v.mode = .broadcasting ∧
        v.out.tx = some (frameBytes s.cfgNodeId 0x01#8 s.cfgAnnounceKind.toByte []) ∧
        ∀ j k p, delivers j s.cfgGwId .initSuccess k p →
          exec j v = .next { v with mode := .active, out := { status := .ok } }

/-- R348: after an accepted SENSOR_DATA_REQ, whatever commands but TICK and RST come, MODE stays SENSOR_REPORTING, nothing
has been emitted, and every message from the gateway is rejected with REJ_OPMODE and lost; the next TICK ends the window,
requests the reading of the requested kind and emits it. -/
def Obligations.TheReportingWindow : Prop :=
  ∀ (i : Instr) (kind : DataKind) (payload : Bytes) (window : List Instr) (s t : State), s.started = true →
    s.mode = .active → s.cfgRole = .sensorNode → delivers i s.cfgGwId .sensorDataReq kind payload →
    exec i s = .next t → (∀ j ∈ window, inWindow j) →
    ∃ u, runInstrs window t = some u ∧ u.mode = .sensorReporting ∧ u.out.tx = none ∧
      (∀ j op k p, delivers j s.cfgGwId op k p → exec j u = .next { u with out :=
        { status := .rejOpmode, report := some .rejOpmode } }) ∧
      ∃ v, exec .tick u = .next v ∧ v.mode = .active ∧ v.out.request = some (.sensorRead kind) ∧
        v.out.tx =
          let r := drawResult (.sensorRead kind) u
          if 65535 < r.length then none else some (frameBytes s.cfgNodeId 0x06#8 kind.toByte r)

/-! ## Fetching, decoding, programs -/

/-- One step runs the decoded instruction: the next word the host issues is taken off, its draw put at hand, and exec of
the instruction it decodes to is the step. A received buffer that is no frame is RX of it (log entry 16); a host command
whose bundle is malformed is refused by name (log entry 8). With nothing issued the block waits (log entry 2). -/
def Obligations.StepRunsTheDecodedInstruction : Prop :=
  (∀ (s : State) (w : HostWord) (d : Option Bytes) (rest : List Issue) (i : Instr), s.pending = ⟨w, d⟩ :: rest →
    decode w = .ok i → step s = exec i { s with pending := rest, answer := d }) ∧
  (∀ (s : State) (buf : Bytes) (d : Option Bytes) (rest : List Issue) (e : CodecError),
    s.pending = ⟨.frame buf, d⟩ :: rest → parseFrame buf = .error e →
    step s = exec (.rx buf) { s with pending := rest, answer := d }) ∧
  (∀ (s : State) (code : BitVec 3) (operands : Bytes) (d : Option Bytes) (rest : List Issue),
    s.pending = ⟨.hostCmd code operands, d⟩ :: rest → decode (.hostCmd code operands) = .error (.badOperands code) →
    step s = .refused (.malformedOperands code)) ∧
  (∀ s : State, s.pending = [] → step s = .next s)

/-- R122: command code 7 is refused, whatever its operands. -/
def Obligations.CommandCodeSevenIsRefused : Prop :=
  ∀ (s : State) (operands : Bytes) (d : Option Bytes) (rest : List Issue),
    s.pending = ⟨.hostCmd 7#3 operands, d⟩ :: rest → step s = .refused .reservedCommandCode

/-- The third way a step ends: a host command, of a code other than 7, is refused with malformedOperands exactly where its
bundle is not of its port's shape. The shapes are the model's (log entry 8). -/
def Obligations.MalformedBundlesAreRefused : Prop :=
  ∀ (s : State) (code : BitVec 3) (operands : Bytes) (d : Option Bytes) (rest : List Issue), code ≠ 7#3 →
    s.pending = ⟨.hostCmd code operands, d⟩ :: rest →
    (step s = .refused (.malformedOperands code) ↔
      (code = 0#3 ∧ (operands.length ≠ 11 ∨ 2 ≤ (byteAt operands 8).toNat ∨ 8 ≤ (byteAt operands 9).toNat ∨
        128 ≤ (byteAt operands 10).toNat)) ∨
      (code = 1#3 ∧ operands.length < 6) ∨
      (code = 4#3 ∧ operands.length < 8) ∨
      (code = 6#3 ∧ operands ≠ []))

/-- Every well-formed instruction decodes from its own word (30_encoding.md sections 1 and 5; the layout of a host
command's operands is the model's, log entry 8). -/
def Obligations.DecodeOfEncode : Prop := ∀ i : Instr, i.wf = true → decode (encode i) = .ok i

/-- A host command's word has one meaning: the instruction it decodes to encodes to it (layout: log entry 8). -/
def Obligations.EncodeOfDecodedHostCommand : Prop :=
  ∀ (code : BitVec 3) (operands : Bytes) (i : Instr), decode (.hostCmd code operands) = .ok i →
    encode i = .hostCmd code operands

/-- Words written out from the spec's encodings (95_test_vectors.md sections 1 and 2) decode to what they stand for. -/
def Obligations.SomeWordsDecodeAsTheSpecWritesThem : Prop :=
  decode (.frame [0x31#8, 0x30#8, 0x31#8, 0x31#8, 0x30#8, 0x31#8, 0x30#8, 0x36#8, 0x30#8, 0x30#8, 0x30#8, 0x34#8, 0x30#8,
    0x30#8, 0x32#8, 0x33#8, 0x2E#8, 0x35#8, 0x31#8, 0x36#8]) =
      .ok (.sensorData ⟨0x31#8, 0x31#8, 0x30#8, 0x31#8⟩ .tempS [0x32#8, 0x33#8, 0x2E#8, 0x35#8]) ∧
  decode (.frame [0x31#8, 0x30#8, 0x30#8, 0x30#8, 0x30#8, 0x31#8, 0x30#8, 0x33#8, 0x30#8, 0x34#8, 0x30#8, 0x32#8, 0x30#8,
    0x30#8, 0x4F#8, 0x4E#8, 0x31#8, 0x36#8]) = .ok (.command ⟨0x30#8, 0x30#8, 0x30#8, 0x31#8⟩ .act1 [0x4F#8, 0x4E#8]) ∧
  decode (.hostCmd 6#3 []) = .ok .tick ∧
  decode (.hostCmd 5#3 [0x31#8]) = .ok (.rx [0x31#8]) ∧
  decode (.hostCmd 7#3 []) = .error .reservedCode

/-- R124: RXM issues RX of the frame ENC would produce, and is defined only where ENC succeeds; TICKS k issues k TICKs, with
k at least 1. -/
def Obligations.PseudoInstructionsExpand : Prop :=
  (∀ (id : NodeId) (op kind : Byte) (payload : Bytes) (d : Option Bytes) (s t : State),
    exec (.enc id op kind payload) s = .next t →
    Line.expand (.rxm id op kind payload d) =
      match t.out.frame with
      | some f => some [⟨.hostCmd 5#3 f, d⟩]
      | none => none) ∧
  (∀ (k : Nat) (ds : List (Option Bytes)),
    (k = 0 → Line.expand (.ticks k ds) = none) ∧
    (1 ≤ k → ∃ xs, Line.expand (.ticks k ds) = some xs ∧ xs.length = k ∧
      ∀ j, j < k → ∃ d, xs[j]? = some ⟨.hostCmd 6#3 [], d⟩ ∧ d = (ds[j]?).getD none))
end

