-- ==== Sys2Proof/Laws/Ordinals.lean ====
section
/-! SUPPORT. The enumerations and their ordinals; the hex primitives and the length's two bytes. -/

namespace Sys2Proof

@[simp] theorem OpCode.ofByte_toByte (o : OpCode) : OpCode.ofByte o.toByte = some o := by cases o <;> rfl

@[simp] theorem DataKind.ofByte_toByte (k : DataKind) : DataKind.ofByte k.toByte = some k := by cases k <;> rfl

/-- An op code's ordinal is below 8, and every byte below 8 is one. -/
theorem OpCode.ofByte_isSome (b : Byte) : (OpCode.ofByte b).isSome = decide (b.toNat ≤ 7) := by
  revert b
  decide

/-- A data kind's ordinal is below 7, and every byte below 7 is one. -/
theorem DataKind.ofByte_isSome (b : Byte) : (DataKind.ofByte b).isSome = decide (b.toNat ≤ 6) := by
  revert b
  decide

/-- The op code read from a byte has that byte as its ordinal. -/
theorem OpCode.toByte_of_ofByte {b : Byte} {o : OpCode} (h : OpCode.ofByte b = some o) : o.toByte = b := by
  have all : ∀ b : Byte, ∀ o ∈ OpCode.ofByte b, o.toByte = b := by decide
  exact all b o h

/-- The data kind read from a byte has that byte as its ordinal. -/
theorem DataKind.toByte_of_ofByte {b : Byte} {k : DataKind} (h : DataKind.ofByte b = some k) : k.toByte = b := by
  have all : ∀ b : Byte, ∀ k ∈ DataKind.ofByte b, k.toByte = b := by decide
  exact all b k h

/-- The ordinals UPD and ENC accept are those of the op code and data kind they give. -/
theorem Machine.checkedOrdinals_eq_some {o k : Byte} {op : OpCode} {kind : DataKind} :
    Machine.checkedOrdinals o k = some (op, kind) ↔ o = op.toByte ∧ k = kind.toByte := by
  constructor
  · intro h
    unfold Machine.checkedOrdinals at h
    split at h
    · cases h
    · split at h
      · cases h
      · cases h
        exact ⟨(OpCode.toByte_of_ofByte (by assumption)).symm, (DataKind.toByte_of_ofByte (by assumption)).symm⟩
  · rintro ⟨rfl, rfl⟩
    simp [Machine.checkedOrdinals]

/-- A digit reads back as its value (R140, R142). -/
theorem hexVal_hexDigit (v : BitVec 4) : hexVal (hexDigit v) = some v := by
  revert v
  decide

/-- A 16-bit length is its two bytes (30_encoding.md R107). -/
theorem lenOf_bytes (l : Nat) : lenOf (lenLo l) (lenHi l) = BitVec.ofNat 16 l := by
  apply BitVec.eq_of_toNat_eq
  simp only [lenOf, lenLo, lenHi, BitVec.toNat_add, BitVec.toNat_mul, BitVec.toNat_setWidth, BitVec.toNat_ofNat]
  omega

/-- The length a frame's two bytes declare, as a number: low byte plus 256 times the high byte. -/
theorem lenOf_toNat (lo hi : Byte) : (lenOf lo hi).toNat = lo.toNat + 256 * hi.toNat := by
  have := lo.isLt
  have := hi.isLt
  simp only [lenOf, BitVec.toNat_add, BitVec.toNat_mul, BitVec.toNat_setWidth, BitVec.toNat_ofNat]
  omega

end Sys2Proof
end

