-- ==== Sys2Proof/Laws/Codec.lean ====
section
/-! SUPPORT. The parser's stages, each as an if-chain over the buffer's length and bytes, and what it reads from a good
header (40_codec.md R150). -/

namespace Sys2Proof.Machine
/-- A read of a buffer: the byte inside it, nothing outside. -/
theorem memRead_eq (buf : Bytes) (i : Nat) :
    memRead buf i = if i < buf.length then some (byteAt buf i) else none := by
  unfold memRead byteAt
  split <;> simp [*]

/-- The two digits of a byte read back as the byte (R143). -/
theorem hexByte_hexPair (b : Byte) : hexByte (hexDigit (b.extractLsb' 4 4)) (hexDigit (b.extractLsb' 0 4)) = some b := by
  simp only [hexByte, hexVal_hexDigit]
  revert b
  decide

/-- Stage 1: the start marker. -/
theorem startMarker_eq (buf : Bytes) :
    startMarker buf =
      if 1 ≤ buf.length ∧ byteAt buf 0 ≠ 0x31#8 ∨ 2 ≤ buf.length ∧ byteAt buf 1 ≠ 0x30#8 then .error (.framing 0)
      else if buf.length < 2 then .error (.truncation 0) else .ok () := by
  have pair : hexPair Config.sm = [0x31#8, 0x30#8] := by decide
  match buf with
  | [] => rfl
  | [a] => by_cases h : a = 0x31#8 <;> simp [startMarker, memRead, byteAt, pair, h]
  | a :: b :: r =>
    by_cases h : a = 0x31#8 <;> by_cases h' : b = 0x30#8 <;> simp [startMarker, memRead, byteAt, pair, h, h']

/-- Stage 2: the node_id. -/
theorem idField_eq (buf : Bytes) :
    idField buf = if buf.length < 6 then .error (.truncation 2)
      else .ok ⟨byteAt buf 2, byteAt buf 3, byteAt buf 4, byteAt buf 5⟩ := by
  unfold idField
  simp only [memRead_eq]
  by_cases h : buf.length < 6
  · rw [if_pos h, if_neg (by omega : ¬ 5 < buf.length)]
    split <;> simp_all
  · rw [if_neg h, if_pos (by omega), if_pos (by omega), if_pos (by omega), if_pos (by omega)]

/-- One hex-pair field. -/
theorem pairField_eq (buf : Bytes) (k : Nat) :
    pairField buf k = if buf.length < k + 2 then .error (.truncation k)
      else match pairAt buf k with
        | some v => .ok v
        | none => .error (.hex k) := by
  unfold pairField pairAt
  simp only [memRead_eq]
  by_cases h : buf.length < k + 2
  · rw [if_pos h, if_neg (by omega : ¬ k + 1 < buf.length)]
    split <;> simp_all
  · rw [if_neg h, if_pos (by omega), if_pos (by omega)] <;> rfl

/-- Stage 6: the payload and the end marker. -/
theorem bodyField_eq (buf : Bytes) (l : Nat) :
    bodyField buf l = if buf.length < 16 + l then .error (.truncation 14)
      else if pairAt buf (14 + l) = some Config.em then .ok ((buf.drop 14).take l)
      else .error (.framing (14 + l)) := by
  unfold bodyField pairAt
  simp only [memRead_eq]
  by_cases h : buf.length < 16 + l
  · rw [if_pos h, if_neg (by omega : ¬ 15 + l < buf.length)]
    split <;> simp_all
  · rw [if_neg h, if_pos (by omega), if_pos (by omega), show 15 + l = 14 + l + 1 by omega]

/-- A good header parses to its fields, and what is left to check is the body at the declared length. -/
theorem parseFrame_header (id : NodeId) (op : OpCode) (kind : DataKind) (l : Nat) (rest : Bytes) :
    parseFrame ([0x31#8, 0x30#8] ++ id.toBytes ++ hexPair op.toByte ++ hexPair kind.toByte
        ++ hexPair (lenLo l) ++ hexPair (lenHi l) ++ rest) =
      match bodyField ([0x31#8, 0x30#8] ++ id.toBytes ++ hexPair op.toByte ++ hexPair kind.toByte
        ++ hexPair (lenLo l) ++ hexPair (lenHi l) ++ rest) (BitVec.ofNat 16 l).toNat with
      | .error e => .error e
      | .ok payload => .ok ⟨id, op, kind, BitVec.ofNat 16 l, payload⟩ := by
  have marker : [0x31#8, 0x30#8] = [hexDigit (Config.sm.extractLsb' 4 4), hexDigit (Config.sm.extractLsb' 0 4)] := by
    decide
  unfold parseFrame
  simp only [startMarker, idField, opField, kindField, lenField, pairField, memRead, hexPair, NodeId.toBytes,
    List.cons_append, List.nil_append, List.getElem?_cons_succ, List.getElem?_cons_zero, hexByte_hexPair,
    OpCode.ofByte_toByte, DataKind.ofByte_toByte, lenOf_bytes, ← marker, if_true] <;> rfl

/-- The body after a header: the payload and the end marker are looked for at the declared length only. -/
theorem bodyField_header (hdr rest : Bytes) (l : Nat) (hh : hdr.length = 14) :
    bodyField (hdr ++ rest) l =
      if rest.length < l + 2 then .error (.truncation 14)
      else if hexByte (byteAt rest l) (byteAt rest (l + 1)) = some Config.em then .ok (rest.take l)
      else .error (.framing (14 + l)) := by
  have e1 : ∀ i, byteAt (hdr ++ rest) (14 + i) = byteAt rest i := by
    intro i
    simp [byteAt, List.getElem?_append_right, hh]
  have e2 : (hdr ++ rest).drop 14 = rest := by rw [← hh]; simp
  rw [bodyField_eq, pairAt, Nat.add_assoc 14 l 1, e1, e1, e2]
  by_cases h : rest.length < l + 2
  · rw [if_pos h, if_pos (by simp [hh]; omega)]
  · rw [if_neg h, if_neg (by simp [hh]; omega)]
end Sys2Proof.Machine
end

