-- ==== Sys2Proof/Laws/State.lean ====
section
/-! SUPPORT. What each named operation does to each field of State, by definition, so that no proof unfolds a record
update. -/

namespace Sys2Proof.Machine

@[simp] theorem State.setOut_cfgNodeId (s : State) (o : Outputs) : (s.setOut o).cfgNodeId = s.cfgNodeId := rfl
@[simp] theorem State.setOut_cfgGwId (s : State) (o : Outputs) : (s.setOut o).cfgGwId = s.cfgGwId := rfl
@[simp] theorem State.setOut_cfgRole (s : State) (o : Outputs) : (s.setOut o).cfgRole = s.cfgRole := rfl
@[simp] theorem State.setOut_cfgAnnounceKind (s : State) (o : Outputs) : (s.setOut o).cfgAnnounceKind = s.cfgAnnounceKind := rfl
@[simp] theorem State.setOut_cfgKinds (s : State) (o : Outputs) : (s.setOut o).cfgKinds = s.cfgKinds := rfl
@[simp] theorem State.setOut_mode (s : State) (o : Outputs) : (s.setOut o).mode = s.mode := rfl
@[simp] theorem State.setOut_gwConfirmed (s : State) (o : Outputs) : (s.setOut o).gwConfirmed = s.gwConfirmed := rfl
@[simp] theorem State.setOut_bcastCnt (s : State) (o : Outputs) : (s.setOut o).bcastCnt = s.bcastCnt := rfl
@[simp] theorem State.setOut_pendKind (s : State) (o : Outputs) : (s.setOut o).pendKind = s.pendKind := rfl
@[simp] theorem State.setOut_started (s : State) (o : Outputs) : (s.setOut o).started = s.started := rfl
@[simp] theorem State.setOut_bcastInterval (s : State) (o : Outputs) : (s.setOut o).bcastInterval = s.bcastInterval := rfl
@[simp] theorem State.setOut_out (s : State) (o : Outputs) : (s.setOut o).out = o := rfl
@[simp] theorem State.setOut_pending (s : State) (o : Outputs) : (s.setOut o).pending = s.pending := rfl
@[simp] theorem State.setOut_answer (s : State) (o : Outputs) : (s.setOut o).answer = s.answer := rfl
@[simp] theorem State.setOut_drawCount (s : State) (o : Outputs) : (s.setOut o).drawCount = s.drawCount := rfl

@[simp] theorem State.setMode_cfgNodeId (s : State) (m : Mode) : (s.setMode m).cfgNodeId = s.cfgNodeId := rfl
@[simp] theorem State.setMode_cfgGwId (s : State) (m : Mode) : (s.setMode m).cfgGwId = s.cfgGwId := rfl
@[simp] theorem State.setMode_cfgRole (s : State) (m : Mode) : (s.setMode m).cfgRole = s.cfgRole := rfl
@[simp] theorem State.setMode_cfgAnnounceKind (s : State) (m : Mode) : (s.setMode m).cfgAnnounceKind = s.cfgAnnounceKind := rfl
@[simp] theorem State.setMode_cfgKinds (s : State) (m : Mode) : (s.setMode m).cfgKinds = s.cfgKinds := rfl
@[simp] theorem State.setMode_mode (s : State) (m : Mode) : (s.setMode m).mode = m := rfl
@[simp] theorem State.setMode_gwConfirmed (s : State) (m : Mode) : (s.setMode m).gwConfirmed = s.gwConfirmed := rfl
@[simp] theorem State.setMode_bcastCnt (s : State) (m : Mode) : (s.setMode m).bcastCnt = s.bcastCnt := rfl
@[simp] theorem State.setMode_pendKind (s : State) (m : Mode) : (s.setMode m).pendKind = s.pendKind := rfl
@[simp] theorem State.setMode_started (s : State) (m : Mode) : (s.setMode m).started = s.started := rfl
@[simp] theorem State.setMode_bcastInterval (s : State) (m : Mode) : (s.setMode m).bcastInterval = s.bcastInterval := rfl
@[simp] theorem State.setMode_out (s : State) (m : Mode) : (s.setMode m).out = s.out := rfl
@[simp] theorem State.setMode_pending (s : State) (m : Mode) : (s.setMode m).pending = s.pending := rfl
@[simp] theorem State.setMode_answer (s : State) (m : Mode) : (s.setMode m).answer = s.answer := rfl
@[simp] theorem State.setMode_drawCount (s : State) (m : Mode) : (s.setMode m).drawCount = s.drawCount := rfl

@[simp] theorem State.confirmGateway_cfgNodeId (s : State) : s.confirmGateway.cfgNodeId = s.cfgNodeId := rfl
@[simp] theorem State.confirmGateway_cfgGwId (s : State) : s.confirmGateway.cfgGwId = s.cfgGwId := rfl
@[simp] theorem State.confirmGateway_cfgRole (s : State) : s.confirmGateway.cfgRole = s.cfgRole := rfl
@[simp] theorem State.confirmGateway_cfgAnnounceKind (s : State) : s.confirmGateway.cfgAnnounceKind = s.cfgAnnounceKind := rfl
@[simp] theorem State.confirmGateway_cfgKinds (s : State) : s.confirmGateway.cfgKinds = s.cfgKinds := rfl
@[simp] theorem State.confirmGateway_mode (s : State) : s.confirmGateway.mode = s.mode := rfl
@[simp] theorem State.confirmGateway_gwConfirmed (s : State) : s.confirmGateway.gwConfirmed = true := rfl
@[simp] theorem State.confirmGateway_bcastCnt (s : State) : s.confirmGateway.bcastCnt = s.bcastCnt := rfl
@[simp] theorem State.confirmGateway_pendKind (s : State) : s.confirmGateway.pendKind = s.pendKind := rfl
@[simp] theorem State.confirmGateway_started (s : State) : s.confirmGateway.started = s.started := rfl
@[simp] theorem State.confirmGateway_bcastInterval (s : State) : s.confirmGateway.bcastInterval = s.bcastInterval := rfl
@[simp] theorem State.confirmGateway_out (s : State) : s.confirmGateway.out = s.out := rfl
@[simp] theorem State.confirmGateway_pending (s : State) : s.confirmGateway.pending = s.pending := rfl
@[simp] theorem State.confirmGateway_answer (s : State) : s.confirmGateway.answer = s.answer := rfl
@[simp] theorem State.confirmGateway_drawCount (s : State) : s.confirmGateway.drawCount = s.drawCount := rfl

@[simp] theorem State.setBcastCnt_cfgNodeId (s : State) (n : BitVec 16) : (s.setBcastCnt n).cfgNodeId = s.cfgNodeId := rfl
@[simp] theorem State.setBcastCnt_cfgGwId (s : State) (n : BitVec 16) : (s.setBcastCnt n).cfgGwId = s.cfgGwId := rfl
@[simp] theorem State.setBcastCnt_cfgRole (s : State) (n : BitVec 16) : (s.setBcastCnt n).cfgRole = s.cfgRole := rfl
@[simp] theorem State.setBcastCnt_cfgAnnounceKind (s : State) (n : BitVec 16) : (s.setBcastCnt n).cfgAnnounceKind = s.cfgAnnounceKind := rfl
@[simp] theorem State.setBcastCnt_cfgKinds (s : State) (n : BitVec 16) : (s.setBcastCnt n).cfgKinds = s.cfgKinds := rfl
@[simp] theorem State.setBcastCnt_mode (s : State) (n : BitVec 16) : (s.setBcastCnt n).mode = s.mode := rfl
@[simp] theorem State.setBcastCnt_gwConfirmed (s : State) (n : BitVec 16) : (s.setBcastCnt n).gwConfirmed = s.gwConfirmed := rfl
@[simp] theorem State.setBcastCnt_bcastCnt (s : State) (n : BitVec 16) : (s.setBcastCnt n).bcastCnt = n := rfl
@[simp] theorem State.setBcastCnt_pendKind (s : State) (n : BitVec 16) : (s.setBcastCnt n).pendKind = s.pendKind := rfl
@[simp] theorem State.setBcastCnt_started (s : State) (n : BitVec 16) : (s.setBcastCnt n).started = s.started := rfl
@[simp] theorem State.setBcastCnt_bcastInterval (s : State) (n : BitVec 16) : (s.setBcastCnt n).bcastInterval = s.bcastInterval := rfl
@[simp] theorem State.setBcastCnt_out (s : State) (n : BitVec 16) : (s.setBcastCnt n).out = s.out := rfl
@[simp] theorem State.setBcastCnt_pending (s : State) (n : BitVec 16) : (s.setBcastCnt n).pending = s.pending := rfl
@[simp] theorem State.setBcastCnt_answer (s : State) (n : BitVec 16) : (s.setBcastCnt n).answer = s.answer := rfl
@[simp] theorem State.setBcastCnt_drawCount (s : State) (n : BitVec 16) : (s.setBcastCnt n).drawCount = s.drawCount := rfl

@[simp] theorem State.setPendKind_cfgNodeId (s : State) (k : DataKind) : (s.setPendKind k).cfgNodeId = s.cfgNodeId := rfl
@[simp] theorem State.setPendKind_cfgGwId (s : State) (k : DataKind) : (s.setPendKind k).cfgGwId = s.cfgGwId := rfl
@[simp] theorem State.setPendKind_cfgRole (s : State) (k : DataKind) : (s.setPendKind k).cfgRole = s.cfgRole := rfl
@[simp] theorem State.setPendKind_cfgAnnounceKind (s : State) (k : DataKind) : (s.setPendKind k).cfgAnnounceKind = s.cfgAnnounceKind := rfl
@[simp] theorem State.setPendKind_cfgKinds (s : State) (k : DataKind) : (s.setPendKind k).cfgKinds = s.cfgKinds := rfl
@[simp] theorem State.setPendKind_mode (s : State) (k : DataKind) : (s.setPendKind k).mode = s.mode := rfl
@[simp] theorem State.setPendKind_gwConfirmed (s : State) (k : DataKind) : (s.setPendKind k).gwConfirmed = s.gwConfirmed := rfl
@[simp] theorem State.setPendKind_bcastCnt (s : State) (k : DataKind) : (s.setPendKind k).bcastCnt = s.bcastCnt := rfl
@[simp] theorem State.setPendKind_pendKind (s : State) (k : DataKind) : (s.setPendKind k).pendKind = k := rfl
@[simp] theorem State.setPendKind_started (s : State) (k : DataKind) : (s.setPendKind k).started = s.started := rfl
@[simp] theorem State.setPendKind_bcastInterval (s : State) (k : DataKind) : (s.setPendKind k).bcastInterval = s.bcastInterval := rfl
@[simp] theorem State.setPendKind_out (s : State) (k : DataKind) : (s.setPendKind k).out = s.out := rfl
@[simp] theorem State.setPendKind_pending (s : State) (k : DataKind) : (s.setPendKind k).pending = s.pending := rfl
@[simp] theorem State.setPendKind_answer (s : State) (k : DataKind) : (s.setPendKind k).answer = s.answer := rfl
@[simp] theorem State.setPendKind_drawCount (s : State) (k : DataKind) : (s.setPendKind k).drawCount = s.drawCount := rfl

@[simp] theorem afterDraw_cfgNodeId (r : Request) (s : State) : (afterDraw r s).cfgNodeId = s.cfgNodeId := rfl
@[simp] theorem afterDraw_cfgGwId (r : Request) (s : State) : (afterDraw r s).cfgGwId = s.cfgGwId := rfl
@[simp] theorem afterDraw_cfgRole (r : Request) (s : State) : (afterDraw r s).cfgRole = s.cfgRole := rfl
@[simp] theorem afterDraw_cfgAnnounceKind (r : Request) (s : State) : (afterDraw r s).cfgAnnounceKind = s.cfgAnnounceKind := rfl
@[simp] theorem afterDraw_cfgKinds (r : Request) (s : State) : (afterDraw r s).cfgKinds = s.cfgKinds := rfl
@[simp] theorem afterDraw_mode (r : Request) (s : State) : (afterDraw r s).mode = s.mode := rfl
@[simp] theorem afterDraw_gwConfirmed (r : Request) (s : State) : (afterDraw r s).gwConfirmed = s.gwConfirmed := rfl
@[simp] theorem afterDraw_bcastCnt (r : Request) (s : State) : (afterDraw r s).bcastCnt = s.bcastCnt := rfl
@[simp] theorem afterDraw_pendKind (r : Request) (s : State) : (afterDraw r s).pendKind = s.pendKind := rfl
@[simp] theorem afterDraw_started (r : Request) (s : State) : (afterDraw r s).started = s.started := rfl
@[simp] theorem afterDraw_bcastInterval (r : Request) (s : State) : (afterDraw r s).bcastInterval = s.bcastInterval := rfl
@[simp] theorem afterDraw_out (r : Request) (s : State) : (afterDraw r s).out = { s.out with request := some r } := rfl
@[simp] theorem afterDraw_pending (r : Request) (s : State) : (afterDraw r s).pending = s.pending := rfl
@[simp] theorem afterDraw_answer (r : Request) (s : State) : (afterDraw r s).answer = none := rfl
@[simp] theorem afterDraw_drawCount (r : Request) (s : State) : (afterDraw r s).drawCount = s.drawCount + 1 := rfl

@[simp] theorem complete_cfgNodeId (s : State) : (complete s).cfgNodeId = s.cfgNodeId := rfl
@[simp] theorem complete_cfgGwId (s : State) : (complete s).cfgGwId = s.cfgGwId := rfl
@[simp] theorem complete_cfgRole (s : State) : (complete s).cfgRole = s.cfgRole := rfl
@[simp] theorem complete_cfgAnnounceKind (s : State) : (complete s).cfgAnnounceKind = s.cfgAnnounceKind := rfl
@[simp] theorem complete_cfgKinds (s : State) : (complete s).cfgKinds = s.cfgKinds := rfl
@[simp] theorem complete_mode (s : State) : (complete s).mode = s.mode := rfl
@[simp] theorem complete_gwConfirmed (s : State) : (complete s).gwConfirmed = s.gwConfirmed := rfl
@[simp] theorem complete_bcastCnt (s : State) : (complete s).bcastCnt = s.bcastCnt := rfl
@[simp] theorem complete_pendKind (s : State) : (complete s).pendKind = s.pendKind := rfl
@[simp] theorem complete_started (s : State) : (complete s).started = s.started := rfl
@[simp] theorem complete_bcastInterval (s : State) : (complete s).bcastInterval = s.bcastInterval := rfl
@[simp] theorem complete_out (s : State) : (complete s).out = okOutputs := rfl
@[simp] theorem complete_pending (s : State) : (complete s).pending = s.pending := rfl
@[simp] theorem complete_answer (s : State) : (complete s).answer = s.answer := rfl
@[simp] theorem complete_drawCount (s : State) : (complete s).drawCount = s.drawCount := rfl

@[simp] theorem raise_cfgNodeId (e : Status) (info : Option Nat) (s : State) : (raise e info s).cfgNodeId = s.cfgNodeId := rfl
@[simp] theorem raise_cfgGwId (e : Status) (info : Option Nat) (s : State) : (raise e info s).cfgGwId = s.cfgGwId := rfl
@[simp] theorem raise_cfgRole (e : Status) (info : Option Nat) (s : State) : (raise e info s).cfgRole = s.cfgRole := rfl
@[simp] theorem raise_cfgAnnounceKind (e : Status) (info : Option Nat) (s : State) : (raise e info s).cfgAnnounceKind = s.cfgAnnounceKind := rfl
@[simp] theorem raise_cfgKinds (e : Status) (info : Option Nat) (s : State) : (raise e info s).cfgKinds = s.cfgKinds := rfl
@[simp] theorem raise_mode (e : Status) (info : Option Nat) (s : State) : (raise e info s).mode = s.mode := rfl
@[simp] theorem raise_gwConfirmed (e : Status) (info : Option Nat) (s : State) : (raise e info s).gwConfirmed = s.gwConfirmed := rfl
@[simp] theorem raise_bcastCnt (e : Status) (info : Option Nat) (s : State) : (raise e info s).bcastCnt = s.bcastCnt := rfl
@[simp] theorem raise_pendKind (e : Status) (info : Option Nat) (s : State) : (raise e info s).pendKind = s.pendKind := rfl
@[simp] theorem raise_started (e : Status) (info : Option Nat) (s : State) : (raise e info s).started = s.started := rfl
@[simp] theorem raise_bcastInterval (e : Status) (info : Option Nat) (s : State) : (raise e info s).bcastInterval = s.bcastInterval := rfl
@[simp] theorem raise_out (e : Status) (info : Option Nat) (s : State) : (raise e info s).out = failedOutputs e info := rfl
@[simp] theorem raise_pending (e : Status) (info : Option Nat) (s : State) : (raise e info s).pending = s.pending := rfl
@[simp] theorem raise_answer (e : Status) (info : Option Nat) (s : State) : (raise e info s).answer = s.answer := rfl
@[simp] theorem raise_drawCount (e : Status) (info : Option Nat) (s : State) : (raise e info s).drawCount = s.drawCount := rfl

end Sys2Proof.Machine
end

