-- ==== Sys2Proof/Laws/Ops.lean ====
section
/-! SUPPORT. One lemma per shared operation: everything it can do. -/

namespace Sys2Proof.Machine

/-- A command has a next state exactly in a session, and it is the command's result. -/
theorem inSession_next {s t u : State} : inSession s t = .next u ↔ s.started = true ∧ u = t := by
  cases h : s.started <;> simp [inSession, h]
  exact eq_comm

/-- A command is refused exactly before the first RST. -/
theorem inSession_refused {s t : State} {r : Refusal} :
    inSession s t = .refused r ↔ s.started = false ∧ r = .beforeFirstRst := by
  cases h : s.started <;> simp [inSession, h]
  exact eq_comm

/-- The identity gate either lets the message through or rejects it. -/
theorem identityGate_cases (id : NodeId) (f : State → State) (s : State) :
    (id = s.cfgGwId ∧ identityGate id f s = f s) ∨
      (id ≠ s.cfgGwId ∧ identityGate id f s = raise .rejIdentity none s) := by
  unfold identityGate
  split <;> simp_all

/-- The emission puts a frame on TX or reports the overflow, and writes no register. -/
theorem emit_cases (op : OpCode) (kind : DataKind) (p : Bytes) (s : State) :
    (p.length ≤ Config.lMax ∧
        emit op kind p s = s.setOut { s.out with tx := some (frameBytes s.cfgNodeId op.toByte kind.toByte p) }) ∨
      (Config.lMax < p.length ∧ emit op kind p s = s.setOut { s.out with report := some .errOverflow, tx := none }) := by
  unfold emit
  split
  · exact .inr ⟨by assumption, rfl⟩
  · exact .inl ⟨by omega, rfl⟩

/-- The emission sets output ports only. -/
theorem emit_eq_setOut (op : OpCode) (kind : DataKind) (p : Bytes) (s : State) :
    emit op kind p s = s.setOut (emit op kind p s).out := by
  rcases emit_cases op kind p s with ⟨-, h⟩ | ⟨-, h⟩ <;> rw [h] <;> rfl

/-- A draw takes the answer supplied with the command. -/
theorem drawnAnswer_supplied {r : Request} {s : State} {a : Bytes} (h : s.answer = some a) : drawnAnswer r s = a := by
  simp [drawnAnswer, h]

/-- A draw the input does not supply takes the free value. -/
theorem drawnAnswer_free {r : Request} {s : State} (h : s.answer = none) : drawnAnswer r s = freeAnswer s.drawCount r := by
  simp [drawnAnswer, h]

/-- With nothing issued there is nothing to fetch. -/
theorem fetch_none {s : State} : fetch s = none ↔ s.pending = [] := by
  unfold fetch
  split <;> simp_all

/-- Fetching takes the oldest issue off and puts its draw at hand. -/
theorem fetch_cons {s : State} {x : Issue} {rest : List Issue} (h : s.pending = x :: rest) :
    fetch s = some (x.word, { s with pending := rest, answer := x.draw }) := by
  simp [fetch, h]

end Sys2Proof.Machine
end

