-- ==== Sys2Proof/Laws/Effects.lean ====
section
/-! SUPPORT. Everything a message, a tick and a command can do, said once: the inversion lemmas that proofs over all
instructions start from. -/

namespace Sys2Proof.Machine

/-- What a message in range does to the state (41_session_fsm.md R200, R211). -/
inductive UpdateEffect (id : NodeId) (op : OpCode) (kind : DataKind) (payload : Bytes) (s : State) : State → Prop where
  | identity (h : id ≠ s.cfgGwId) : UpdateEffect id op kind payload s (raise .rejIdentity none s)
  | opmode (hid : id = s.cfgGwId) (h : (s.mode, op) ∉ acceptedPairs) :
      UpdateEffect id op kind payload s (raise .rejOpmode none s)
  | role (hid : id = s.cfgGwId) (hm : s.mode = .active ∨ s.mode = .actuating)
      (h : op = .command ∧ s.cfgRole = .sensorNode ∨ op = .sensorDataReq ∧ s.cfgRole = .actuatorNode) :
      UpdateEffect id op kind payload s (raise .rejRole none s)
  | confirm (hid : id = s.cfgGwId) (ho : op = .gatewayInit) (hm : s.mode = .initializing) :
      UpdateEffect id op kind payload s (complete s.confirmGateway)
  | activate (hid : id = s.cfgGwId) (ho : op = .initSuccess) (hm : s.mode = .broadcasting) :
      UpdateEffect id op kind payload s (complete (s.setMode .active))
  | report (hid : id = s.cfgGwId) (ho : op = .sensorDataReq) (hm : s.mode = .active) (hr : s.cfgRole = .sensorNode) :
      UpdateEffect id op kind payload s (complete ((s.setMode .sensorReporting).setPendKind kind))
  | ack (hid : id = s.cfgGwId) (ho : op = .ack) (hm : s.mode = .active) :
      UpdateEffect id op kind payload s (complete s)
  | apply (hid : id = s.cfgGwId) (ho : op = .command) (hm : s.mode = .active ∨ s.mode = .actuating)
      (hr : s.cfgRole = .actuatorNode) : UpdateEffect id op kind payload s (applyCommand kind payload s)

/-- A message in range does one of these. -/
theorem update_effect (id : NodeId) (op : OpCode) (kind : DataKind) (payload : Bytes) (s : State) :
    UpdateEffect id op kind payload s (update id op kind payload s) := by
  unfold update
  rcases identityGate_cases id (dispatchOp op kind payload) s with ⟨hid, h⟩ | ⟨hid, h⟩ <;> rw [h]
  · cases op <;> simp only [dispatchOp]
    · unfold onGatewayInit
      split
      · exact .confirm hid rfl (by assumption)
      all_goals exact .opmode hid (by simp_all [acceptedPairs])
    · exact .opmode hid (by simp [acceptedPairs])
    · unfold onInitSuccess
      split
      · exact .activate hid rfl (by assumption)
      all_goals exact .opmode hid (by simp_all [acceptedPairs])
    · unfold onCommand
      split
      iterate 2
        · split
          · exact .apply hid rfl (by simp_all) (by assumption)
          · exact .role hid (by simp_all) (by simp_all)
      all_goals exact .opmode hid (by simp_all [acceptedPairs])
    · exact .opmode hid (by simp [acceptedPairs])
    · unfold onSensorDataReq
      split
      · split
        · exact .report hid rfl (by assumption) (by assumption)
        · exact .role hid (by simp_all) (by simp_all)
      all_goals exact .opmode hid (by simp_all [acceptedPairs])
    · exact .opmode hid (by simp [acceptedPairs])
    · unfold onAck
      split
      · exact .ack hid rfl (by assumption)
      all_goals exact .opmode hid (by simp_all [acceptedPairs])
  · exact .identity hid

/-- What a tick does to the state (R213). -/
inductive TickEffect (s : State) : State → Prop where
  | idle (h : s.mode = .active ∨ s.mode = .actuating ∨ s.gwConfirmed = false) : TickEffect s (complete s)
  | enter (hm : s.mode = .initializing) (hg : s.gwConfirmed = true) :
      TickEffect s (announce (((complete s).setMode .broadcasting).setBcastCnt 0#16))
  | again (hm : s.mode = .broadcasting) (hg : s.gwConfirmed = true)
      (hc : s.bcastInterval.toNat ≤ s.bcastCnt.toNat + 1) : TickEffect s (announce ((complete s).setBcastCnt 0#16))
  | count (hm : s.mode = .broadcasting) (hg : s.gwConfirmed = true)
      (hc : s.bcastCnt.toNat + 1 < s.bcastInterval.toNat) : TickEffect s ((complete s).setBcastCnt (s.bcastCnt + 1#16))
  | sample (hm : s.mode = .sensorReporting) : TickEffect s (tickSensorReporting s)

/-- A tick does one of these. -/
theorem tickArm_effect (s : State) : TickEffect s (tickArm s) := by
  unfold tickArm
  split
  · unfold tickInitializing
    split
    · exact .enter (by assumption) (by assumption)
    · exact .idle (by simp_all)
  · unfold tickBroadcasting
    split
    · split
      · exact .again (by assumption) (by assumption) (by assumption)
      · exact .count (by assumption) (by assumption) (by omega)
    · exact .idle (by simp_all)
  · exact .sample (by assumption)
  all_goals exact .idle (by simp_all)

/-- What a command with a next state does to the state. -/
inductive CommandEffect (i : Instr) (s : State) : State → Prop where
  | reset (cfg : RstCfg) (kind : DataKind) (hi : i = .rst cfg) (hk : announceKindOf cfg.announceKind = some kind) :
      CommandEffect i s (startSession cfg kind s)
  | packed (f : Bytes) (hs : s.started = true) (hi : ∃ id op kind p, i = .enc id op kind p) :
      CommandEffect i s (s.setOut { okOutputs with frame := some f })
  | parsed (p : ParsedFrame) (hs : s.started = true) (hi : ∃ buf, i = .dec buf ∧ parseFrame buf = .ok p) :
      CommandEffect i s (s.setOut { okOutputs with msg := some (messageOf p), flen := some (Config.ovh + p.len.toNat) })
  | checked (b : Bool) (hs : s.started = true) (hi : ∃ buf, i = .chkstart buf) :
      CommandEffect i s (s.setOut { okOutputs with present := some b })
  | rejected (e : Status) (he : e ≠ .ok) (hs : s.started = true)
      (hi : (∃ id op kind p, i = .enc id op kind p) ∨ ∃ m, i = .upd m) : CommandEffect i s (raise e none s)
  | undecoded (buf : Bytes) (e : CodecError) (hs : s.started = true) (hi : i = .dec buf ∨ i = .rx buf)
      (he : parseFrame buf = .error e) : CommandEffect i s (raiseCodec e s)
  | updated (id : NodeId) (op : OpCode) (kind : DataKind) (payload : Bytes) (t : State) (hs : s.started = true)
      (hi : delivers i id op kind payload)
      (h : UpdateEffect id op kind payload s t) : CommandEffect i s t
  | ticked (t : State) (hs : s.started = true) (hi : i = .tick) (h : TickEffect s t) : CommandEffect i s t

/-- A frame row runs its message's update in a session (R203 to R210). -/
theorem exec_frameInstr (op : OpCode) (id : NodeId) (kind : DataKind) (payload : Bytes) (s : State) :
    exec (frameInstr op id kind payload) s = inSession s (update id op kind payload s) := by
  cases op <;> rfl

/-- Whichever instruction brings a message, it runs that message's update in a session. -/
theorem exec_of_delivers {i : Instr} {id : NodeId} {op : OpCode} {kind : DataKind} {payload : Bytes}
    (h : delivers i id op kind payload) (s : State) : exec i s = inSession s (update id op kind payload s) := by
  rcases h with rfl | ⟨m, rfl, rfl, ho, hk, rfl⟩ | ⟨buf, l, rfl, hp⟩
  · exact exec_frameInstr op id kind payload s
  · simp only [exec, execUpd, checkedOrdinals_eq_some.mpr ⟨ho, hk⟩]
  · simp only [exec, execRx, hp]

/-- The frame rows are the eight frame instructions. -/
theorem frameInstr_effect {op : OpCode} {id : NodeId} {kind : DataKind} {payload : Bytes} {s t : State}
    (h : exec (frameInstr op id kind payload) s = .next t) : CommandEffect (frameInstr op id kind payload) s t := by
  rw [exec_frameInstr, inSession_next] at h
  obtain ⟨hs, rfl⟩ := h
  exact .updated id op kind payload _ hs (.inl rfl) (update_effect ..)

/-- A command with a next state does one of these. -/
theorem exec_effect {i : Instr} {s t : State} (h : exec i s = .next t) : CommandEffect i s t := by
  cases i with
  | gatewayInit id kind p => exact frameInstr_effect (op := .gatewayInit) h
  | nodeInit id kind p => exact frameInstr_effect (op := .nodeInit) h
  | initSuccess id kind p => exact frameInstr_effect (op := .initSuccess) h
  | command id kind p => exact frameInstr_effect (op := .command) h
  | commandExec id kind p => exact frameInstr_effect (op := .commandExec) h
  | sensorDataReq id kind p => exact frameInstr_effect (op := .sensorDataReq) h
  | sensorData id kind p => exact frameInstr_effect (op := .sensorData) h
  | ack id kind p => exact frameInstr_effect (op := .ack) h
  | rst cfg =>
    simp only [exec, execRst] at h
    split at h
    · rename_i kind hk
      cases h
      exact .reset cfg kind rfl hk
    · cases h
  | enc id op kind p =>
    simp only [exec, execEnc, inSession_next] at h
    obtain ⟨hs, rfl⟩ := h
    split
    · exact .packed _ hs ⟨id, op, kind, p, rfl⟩
    · rename_i e he
      refine .rejected e ?_ hs (.inl ⟨id, op, kind, p, rfl⟩)
      unfold packFrame at he
      split at he
      · cases he; simp
      · split at he <;> cases he; simp
  | dec buf =>
    simp only [exec, execDec, inSession_next] at h
    obtain ⟨hs, rfl⟩ := h
    split
    · exact .parsed _ hs ⟨buf, rfl, by assumption⟩
    · exact .undecoded buf _ hs (.inl rfl) (by assumption)
  | chkstart buf =>
    simp only [exec, execChkstart, inSession_next] at h
    obtain ⟨hs, rfl⟩ := h
    exact .checked _ hs ⟨buf, rfl⟩
  | upd m =>
    simp only [exec, execUpd, inSession_next] at h
    obtain ⟨hs, rfl⟩ := h
    split
    · exact .rejected _ (by simp) hs (.inr ⟨m, rfl⟩)
    · rename_i op kind hm
      obtain ⟨ho, hk⟩ := checkedOrdinals_eq_some.mp hm
      exact .updated m.id op kind m.payload _ hs (.inr (.inl ⟨m, rfl, rfl, ho, hk, rfl⟩)) (update_effect ..)
  | rx buf =>
    simp only [exec, execRx, inSession_next] at h
    obtain ⟨hs, rfl⟩ := h
    split
    · exact .undecoded buf _ hs (.inr rfl) (by assumption)
    · rename_i p hp
      exact .updated p.id p.op p.kind p.payload _ hs (.inr (.inr ⟨buf, p.len, rfl, hp⟩)) (update_effect ..)
  | tick =>
    simp only [exec, execTick, inSession_next] at h
    obtain ⟨hs, rfl⟩ := h
    exact .ticked _ hs rfl (tickArm_effect s)

end Sys2Proof.Machine
end

