-- ==== Sys2Proof/Laws/PerInstr.lean ====
section
/-! SUPPORT. A statement made of every instruction's syntax: the word `encode` gives it carries the code of its own row of
spec/opcode_table.json (30_encoding.md R111, R121). -/

namespace Sys2Proof.Laws.CodeField

/-- The row's code: the two characters of a frame's op_code field (R105), or a host command's 3-bit code (R121). -/
def rowCode : Instr → Sum Bytes (BitVec 3)
  | .gatewayInit _ _ _ => .inl [0x30#8, 0x30#8]
  | .nodeInit _ _ _ => .inl [0x30#8, 0x31#8]
  | .initSuccess _ _ _ => .inl [0x30#8, 0x32#8]
  | .command _ _ _ => .inl [0x30#8, 0x33#8]
  | .commandExec _ _ _ => .inl [0x30#8, 0x34#8]
  | .sensorDataReq _ _ _ => .inl [0x30#8, 0x35#8]
  | .sensorData _ _ _ => .inl [0x30#8, 0x36#8]
  | .ack _ _ _ => .inl [0x30#8, 0x37#8]
  | .rst _ => .inr 0#3
  | .enc _ _ _ _ => .inr 1#3
  | .dec _ => .inr 2#3
  | .chkstart _ => .inr 3#3
  | .upd _ => .inr 4#3
  | .rx _ => .inr 5#3
  | .tick => .inr 6#3

/-- The code a word carries. -/
def wordCode : HostWord → Sum Bytes (BitVec 3)
  | .hostCmd code _ => .inr code
  | .frame buf => .inl ((buf.drop 6).take 2)

/-- The word of a well-formed instruction carries its row's code. -/
def Statement (i : Instr) : Prop := i.wf = true → wordCode (encode i) = rowCode i

theorem gatewayInit (id : NodeId) (kind : DataKind) (p : Bytes) : Statement (.gatewayInit id kind p) := fun _ => rfl
theorem nodeInit (id : NodeId) (kind : DataKind) (p : Bytes) : Statement (.nodeInit id kind p) := fun _ => rfl
theorem initSuccess (id : NodeId) (kind : DataKind) (p : Bytes) : Statement (.initSuccess id kind p) := fun _ => rfl
theorem command (id : NodeId) (kind : DataKind) (p : Bytes) : Statement (.command id kind p) := fun _ => rfl
theorem commandExec (id : NodeId) (kind : DataKind) (p : Bytes) : Statement (.commandExec id kind p) := fun _ => rfl
theorem sensorDataReq (id : NodeId) (kind : DataKind) (p : Bytes) : Statement (.sensorDataReq id kind p) := fun _ => rfl
theorem sensorData (id : NodeId) (kind : DataKind) (p : Bytes) : Statement (.sensorData id kind p) := fun _ => rfl
theorem ack (id : NodeId) (kind : DataKind) (p : Bytes) : Statement (.ack id kind p) := fun _ => rfl
theorem rst (cfg : RstCfg) : Statement (.rst cfg) := fun _ => rfl
theorem enc (id : NodeId) (op kind : Byte) (p : Bytes) : Statement (.enc id op kind p) := fun _ => rfl
theorem dec (buf : Bytes) : Statement (.dec buf) := fun _ => rfl
theorem chkstart (buf : Bytes) : Statement (.chkstart buf) := fun _ => rfl
theorem upd (m : Message) : Statement (.upd m) := fun _ => rfl
theorem rx (buf : Bytes) : Statement (.rx buf) := fun _ => rfl
theorem tick : Statement .tick := fun _ => rfl

end Sys2Proof.Laws.CodeField
end

