-- ==== Sys2Proof/Tests/Slice0.lean ====
section
/-! SUPPORT. The model's own tests: the vectors of 95_test_vectors.md, words written out from the spec's encodings, the
smoke test of WellFormed, and a witness for each statement that has hypotheses. -/

namespace Sys2Proof.Machine.Tests

/-- The bytes of an ASCII literal (00_scope.md R12). -/
def asc (t : String) : Bytes := t.toList.map fun c => BitVec.ofNat 8 c.toNat

/-- The next state of an outcome. -/
def nextOf : Host.Outcome State Fault Refusal → Option State
  | .next t => some t
  | _ => none

/-- The outputs of an outcome's next state. -/
def outOf (o : Host.Outcome State Fault Refusal) : Option Outputs := (nextOf o).map (·.out)

/-- The refusal of an outcome. -/
def refusalOf : Host.Outcome State Fault Refusal → Option Refusal
  | .refused r => some r
  | _ => none

def id1101 : NodeId := ⟨0x31#8, 0x31#8, 0x30#8, 0x31#8⟩
def id0001 : NodeId := ⟨0x30#8, 0x30#8, 0x30#8, 0x31#8⟩
def id0002 : NodeId := ⟨0x30#8, 0x30#8, 0x30#8, 0x32#8⟩
def id2202 : NodeId := ⟨0x32#8, 0x32#8, 0x30#8, 0x32#8⟩

/-- CFG-S in a mode, confirmed (95_test_vectors.md). -/
def nodeS (m : Mode) : State := { State.reset with mode := m, gwConfirmed := true }

/-- CFG-A in a mode, confirmed, with an answer at hand. -/
def nodeA (m : Mode) (answer : Option Bytes) : State :=
  { State.reset with
    cfgNodeId := id2202, cfgRole := .actuatorNode, cfgAnnounceKind := .act1, cfgKinds := 0b0110000#7,
    mode := m, gwConfirmed := true, answer := answer }

/-- A state before the first RST. -/
def powerUp : State := { State.reset with started := false }

/-- A payload too long for a frame, as a fact about its length only. -/
theorem long_payload : 65535 < (List.replicate 65536 0#8).length := by rw [List.length_replicate]; omega

/-! ## WellFormed: an ill-formed term for each check -/

theorem test_wf_rst_announce_kind_seven : (Instr.rst ⟨id1101, id0001, .sensorNode, 7#3, 0#7⟩).wf = false := by decide
theorem test_wf_upd_length_mismatch : (Instr.upd ⟨id0001, 0#8, 0#8, 1#16, []⟩).wf = false := by decide
theorem test_wf_frame_payload_too_long : (Instr.ack id0001 .na (List.replicate 65536 0#8)).wf = false := by
  simp only [Instr.wf, payloadFits, Config.lMax, List.length_replicate]
  decide
theorem test_wf_accepts : (Instr.upd ⟨id0001, 0#8, 0#8, 2#16, [1#8, 2#8]⟩).wf = true := by decide

/-! ## Decoding, from words written out from R100 and R121 -/

/-- "1000010006000016": start, id 0001, op 00, kind 06, length 0000, end (V-ENC-3). -/
theorem test_decode_gateway_init :
    decode (.frame [0x31#8, 0x30#8, 0x30#8, 0x30#8, 0x30#8, 0x31#8, 0x30#8, 0x30#8, 0x30#8, 0x36#8, 0x30#8, 0x30#8, 0x30#8,
      0x30#8, 0x31#8, 0x36#8]) = .ok (.gatewayInit id0001 .na []) := by decide
theorem test_decode_node_init : decode (.frame (asc "1011010100000016")) = .ok (.nodeInit id1101 .tempS []) := by decide
theorem test_decode_init_success : decode (.frame (asc "1000010206000016")) = .ok (.initSuccess id0001 .na []) := by
  decide
theorem test_decode_command :
    decode (.frame (asc "10000103040200ON16")) = .ok (.command id0001 .act1 (asc "ON")) := by decide
theorem test_decode_command_exec :
    decode (.frame (asc "10220204040200OK16")) = .ok (.commandExec id2202 .act1 (asc "OK")) := by decide
theorem test_decode_sensor_data_req :
    decode (.frame (asc "1000010501000016")) = .ok (.sensorDataReq id0001 .lightS []) := by decide
theorem test_decode_sensor_data :
    decode (.frame (asc "1011010600040023.516")) = .ok (.sensorData id1101 .tempS (asc "23.5")) := by decide
theorem test_decode_ack : decode (.frame (asc "101101070602001616")) = .ok (.ack id1101 .na (asc "16")) := by decide
theorem test_decode_frame_reserved_op :
    decode (.frame (asc "1011010800000016")) = .error (.notAFrame (.enumeration 6)) := by decide
theorem test_decode_rst :
    decode (.hostCmd 0#3 [0x31#8, 0x31#8, 0x30#8, 0x31#8, 0x30#8, 0x30#8, 0x30#8, 0x31#8, 1#8, 4#8, 0b0110000#8]) =
      .ok (.rst ⟨id1101, id0001, .actuatorNode, 4#3, 0b0110000#7⟩) := by decide
theorem test_decode_enc :
    decode (.hostCmd 1#3 [0x31#8, 0x31#8, 0x30#8, 0x31#8, 6#8, 0#8, 0x32#8]) = .ok (.enc id1101 6#8 0#8 [0x32#8]) := by
  decide
theorem test_decode_dec : decode (.hostCmd 2#3 [0x31#8]) = .ok (.dec [0x31#8]) := by decide
theorem test_decode_chkstart : decode (.hostCmd 3#3 []) = .ok (.chkstart []) := by decide
theorem test_decode_upd :
    decode (.hostCmd 4#3 [0x30#8, 0x30#8, 0x30#8, 0x31#8, 3#8, 4#8, 2#8, 0#8, 0x4F#8, 0x4E#8]) =
      .ok (.upd ⟨id0001, 3#8, 4#8, 2#16, [0x4F#8, 0x4E#8]⟩) := by decide
theorem test_decode_rx : decode (.hostCmd 5#3 [0x31#8, 0x30#8]) = .ok (.rx [0x31#8, 0x30#8]) := by decide
theorem test_decode_tick : decode (.hostCmd 6#3 []) = .ok .tick := by decide
theorem test_decode_code_seven : decode (.hostCmd 7#3 []) = .error .reservedCode := by decide
theorem test_decode_short_bundle : decode (.hostCmd 1#3 [0x31#8]) = .error (.badOperands 1#3) := by decide
theorem test_table_word_frame : decodeTableWord 8 0x05 = some (.sensorDataReq ⟨0#8, 0#8, 0#8, 0#8⟩ .tempS []) := by
  decide
theorem test_table_word_command : decodeTableWord 3 6 = some .tick := by decide
theorem test_table_word_reserved : decodeTableWord 8 0x08 = none := by decide

/-! ## Primitives (95_test_vectors.md 2.1; 60_exceptions.md R301; 30_encoding.md R113) -/

theorem test_hex_digit : hexDigit 9#4 = 0x39#8 ∧ hexDigit 10#4 = 0x41#8 ∧ hexDigit 15#4 = 0x46#8 := by decide
theorem test_hex_pair : hexPair 0xAB#8 = asc "AB" ∧ hexPair 0x10#8 = asc "10" ∧ hexPair 0xFF#8 = asc "FF" := by decide
theorem test_hex_val :
    hexVal 0x37#8 = some 7#4 ∧ hexVal 0x43#8 = some 12#4 ∧ hexVal 0x63#8 = none ∧ hexVal 0x47#8 = none ∧
      hexVal 0x20#8 = none ∧ hexVal 0xB0#8 = none := by decide
theorem test_length_is_base_256 : lenOf 0x00#8 0x01#8 = 256#16 ∧ lenOf 0x34#8 0x12#8 = 0x1234#16 := by decide
theorem test_codes :
    Status.code .rejRole = 8#4 ∧ Mode.code .actuating = 4#3 ∧ Role.toBit .actuatorNode = 1#1 := by decide

/-! ## The codec's commands (95_test_vectors.md 2.2 to 2.4) -/

/-- V-ENC-1. -/
theorem test_enc_scenario :
    outOf (exec (.enc id1101 6#8 0#8 (asc "23.5")) State.reset) =
      some { status := .ok, frame := some (asc "1011010600040023.516") } := by decide
/-- V-ENC-11. -/
theorem test_enc_reserved_kind :
    outOf (exec (.enc id1101 0#8 7#8 []) State.reset) = some { status := .errEnum, report := some .errEnum } := by decide
/-- V-DEC-5: a payload that contains the end marker's characters. -/
theorem test_dec_marker_in_payload :
    outOf (exec (.dec (asc "1011010600030016716")) State.reset) =
      some { status := .ok, msg := some ⟨id1101, 6#8, 0#8, 3#16, asc "167"⟩, flen := some 19 } := by decide
/-- V-DEC-25. -/
theorem test_dec_end_marker_position :
    outOf (exec (.dec (asc "1011010600020023.516")) State.reset) =
      some { status := .errFraming, report := some .errFraming, info := some 16 } := by decide
/-- V-DEC-16, 17, 19, 21, 27: the priority of the checks. -/
theorem test_dec_priorities :
    parseFrame (asc "101101FF") = .error (.enumeration 6) ∧ parseFrame (asc "1011010607") = .error (.enumeration 8) ∧
      parseFrame (asc "10110106000a0023.516") = .error (.hex 10) ∧
      parseFrame (asc "1011010600040") = .error (.truncation 12) ∧
      parseFrame (asc "1011010600FFFF16") = .error (.truncation 14) := by decide
/-- V-DEC-9, 10, 11. -/
theorem test_dec_start_marker :
    parseFrame (asc "1") = .error (.truncation 0) ∧ parseFrame (asc "X") = .error (.framing 0) ∧
      parseFrame (asc "1X") = .error (.framing 0) := by decide
theorem test_chkstart :
    startPresent (asc "10zz") = true ∧ startPresent (asc "1O") = false ∧ startPresent (asc "1") = false := by decide
theorem test_chkstart_out :
    outOf (exec (.chkstart (asc "111101")) State.reset) = some { status := .ok, present := some false } := by decide

/-! ## The session (95_test_vectors.md 2.5 to 2.7) -/

/-- V-UPD-1. -/
theorem test_gateway_init :
    nextOf (exec (.gatewayInit id0001 .na []) State.reset) = some { State.reset with gwConfirmed := true } := by decide
/-- V-UPD-16. -/
theorem test_node_init :
    outOf (exec (.nodeInit id0001 .tempS []) (nodeS .active)) =
      some { status := .rejOpmode, report := some .rejOpmode } := by decide
/-- V-UPD-5. -/
theorem test_init_success :
    (nextOf (exec (.initSuccess id0001 .na []) (nodeS .broadcasting))).map (·.mode) = some .active := by decide
/-- V-UPD-11. -/
theorem test_command :
    outOf (exec (.command id0001 .act1 (asc "ON")) (nodeA .active (some (asc "OK")))) =
      some { status := .ok, tx := some (asc "10220204040200OK16"),
             request := some (.actuatorApply .act1 (asc "ON")) } := by decide
/-- V-UPD-10. -/
theorem test_command_role :
    outOf (exec (.command id0001 .act1 []) (nodeS .active)) = some { status := .rejRole, report := some .rejRole } := by
  decide
/-- V-UPD-18. -/
theorem test_command_exec :
    outOf (exec (.commandExec id0001 .act1 []) (nodeS .active)) =
      some { status := .rejOpmode, report := some .rejOpmode } := by decide
/-- V-UPD-7. -/
theorem test_sensor_data_req :
    nextOf (exec (.sensorDataReq id0001 .lightS []) (nodeS .active)) =
      some { nodeS .sensorReporting with pendKind := .lightS } := by decide
/-- V-UPD-14: mode before role. -/
theorem test_sensor_data_req_mode_before_role :
    outOf (exec (.sensorDataReq id0001 .tempS []) (nodeA .actuating none)) =
      some { status := .rejOpmode, report := some .rejOpmode } := by decide
/-- V-UPD-17. -/
theorem test_sensor_data :
    outOf (exec (.sensorData id1101 .tempS []) (nodeS .active)) =
      some { status := .rejIdentity, report := some .rejIdentity } := by decide
/-- V-UPD-9, V-UPD-13. -/
theorem test_ack :
    nextOf (exec (.ack id0001 .na []) (nodeS .active)) = some (nodeS .active) ∧
      outOf (exec (.ack id0001 .na []) (nodeA .actuating none)) =
        some { status := .rejOpmode, report := some .rejOpmode } := by decide
/-- V-UPD-20: the enumeration before the identity. -/
theorem test_upd_enum_first :
    outOf (exec (.upd ⟨id0002, 8#8, 0#8, 0#16, []⟩) (nodeS .active)) =
      some { status := .errEnum, report := some .errEnum } := by decide
/-- V-UPD-12. -/
theorem test_upd_command :
    outOf (exec (.upd ⟨id0001, 3#8, 5#8, 3#16, asc "OFF"⟩) (nodeA .actuating (some (asc "DONE")))) =
      some { status := .ok, tx := some (asc "10220204050400DONE16"),
             request := some (.actuatorApply .act2 (asc "OFF")) } := by decide
/-- V-RX-4: the second frame is not processed. -/
theorem test_rx_first_frame_only :
    nextOf (exec (.rx (asc "10000100060000161000010206000016")) State.reset) =
      some { State.reset with gwConfirmed := true } := by decide
/-- V-RX-3. -/
theorem test_rx_truncated :
    outOf (exec (.rx (asc "10000103040200ON")) (nodeA .actuating none)) =
      some { status := .errTruncation, report := some .errTruncation, info := some 14 } := by decide
/-- V-TICK-11. -/
theorem test_tick_enters_broadcasting :
    outOf (exec .tick (nodeA .initializing none)) = some { status := .ok, tx := some (asc "1022020104000016") } := by
  decide
/-- V-TICK-4, V-TICK-3. -/
theorem test_tick_interval :
    nextOf (exec .tick { nodeS .broadcasting with bcastCnt := 9#16 }) =
        some { nodeS .broadcasting with out := { status := .ok, tx := some (asc "1011010100000016") } } ∧
      nextOf (exec .tick (nodeS .broadcasting)) = some { nodeS .broadcasting with bcastCnt := 1#16 } := by decide
/-- V-TICK-6. -/
theorem test_tick_reports :
    outOf (exec .tick { nodeS .sensorReporting with answer := some (asc "23.5") }) =
      some { status := .ok, tx := some (asc "1011010600040023.516"), request := some (.sensorRead .tempS) } := by decide
/-- V-RST-2. -/
theorem test_rst_new_session :
    nextOf (exec (.rst State.resetCfg) (nodeS .active)) = some State.reset := by decide
theorem test_rst_reserved_kind :
    refusalOf (exec (.rst ⟨id1101, id0001, .sensorNode, 7#3, 0#7⟩) State.reset) = some .reservedAnnounceKind := by decide
theorem test_before_first_rst :
    refusalOf (exec (.dec []) powerUp) = some .beforeFirstRst ∧
      nextOf (exec (.rst State.resetCfg) powerUp) = some State.reset := by decide

/-! ## Steps and programs -/

theorem test_step_waits : nextOf (step State.reset) = some State.reset := by decide
theorem test_step_code_seven :
    refusalOf (step { State.reset with pending := [⟨.hostCmd 7#3 [], none⟩] }) = some .reservedCommandCode := by decide
theorem test_step_undecodable_frame :
    outOf (step { State.reset with pending := [⟨.frame (asc "11"), none⟩] }) =
      some { status := .errFraming, report := some .errFraming, info := some 0 } := by decide
theorem test_with_fetch_word :
    outOf (step (State.reset.withFetchWord 8 0)) = some { status := .rejIdentity, report := some .rejIdentity } := by
  decide

/-- P3 step 7, from its text (30_encoding.md R123). -/
theorem test_assemble_rx :
    assemble "RX \"10000103040200\" ++ x\"4F 4E 31 36\" ; draw ActuatorApply(ACT_1, \"ON\") = \"OK\"" =
      some [⟨.hostCmd 5#3 (asc "10000103040200ON16"), some (asc "OK")⟩] := by decide
/-- P1 step 1, from its text. -/
theorem test_assemble_rst :
    assemble "RST node=\"1101\", gw=\"0001\", role=SENSOR_NODE, announce=TEMP_S, kinds=0000001" =
      some [⟨encode (.rst State.resetCfg), none⟩] := by decide
/-- R124: RXM and TICKS; a comment line. -/
theorem test_assemble_pseudo :
    assemble "; a comment\nRXM \"0001\", GATEWAY_INIT, NA, \"\"\nTICKS 2" =
      some [⟨.hostCmd 5#3 (asc "1000010006000016"), none⟩, ⟨.hostCmd 6#3 [], none⟩, ⟨.hostCmd 6#3 [], none⟩] := by
  decide
theorem test_assemble_bad_line : assemble "TOCK" = none ∧ assemble "TICKS 0" = none := by decide

/-! ## Witnesses: a state and operands that meet a statement's hypotheses together -/

/-- EncResult, NodeInitResult (receipt), DecReportsTheFirstFailure and every statement over a session. -/
theorem witness_session : State.reset.started = true := rfl
/-- EncFrameFieldsAtTheirOffsets, DecOfAProperPrefixTruncates (k = 0 and 15), PseudoInstructionsExpand. -/
theorem witness_enc_frame : ∃ t f, exec (.enc id1101 7#8 6#8 []) State.reset = .next t ∧ t.out.frame = some f ∧
    0 < f.length ∧ 15 < f.length := ⟨_, _, rfl, rfl, by decide, by decide⟩
/-- EncThenDecRoundTrip, at op 7, kind 6 and the longest payload. -/
theorem witness_round_trip : State.reset.started = true ∧ (7#8).toNat ≤ 7 ∧ (6#8).toNat ≤ 6 ∧
    (List.replicate 65535 0#8).length ≤ 65535 := ⟨rfl, by decide, by decide, by rw [List.length_replicate]⟩
/-- DecAcceptsOnlyEncodedFrames, DecIgnoresTrailingBytes. -/
theorem witness_dec_accepts : ∃ t, exec (.dec (asc "1000010006000016")) State.reset = .next t ∧ t.out.status = .ok ∧
    t.out.flen = some (asc "1000010006000016").length := ⟨_, rfl, by decide, by decide⟩
/-- DecStartMarkerMismatch, each clause. -/
theorem witness_start_marker : 0x58#8 ≠ 0x31#8 ∧ 0x31#8 ≠ 0x30#8 ∧
    (([] : Bytes) = [] ∨ ([] : Bytes) = [0x31#8]) := by decide
/-- DecEndMarkerOnlyAtTheDeclaredOffset, each clause, at l = 0 and at l = 65535. -/
theorem witness_end_marker : 0 + 2 ≤ (asc "1716").length ∧ ((asc "1716").drop 0).take 2 ≠ [0x31#8, 0x36#8] ∧
    (asc "16").length < 65535 + 2 ∧ (65535 : Nat) ≤ 65535 := by decide
/-- ChkstartResult's last clause. -/
theorem witness_chkstart : 2 ≤ (asc "11").length ∧ (asc "11").take 2 ≠ [0x31#8, 0x30#8] := by decide
/-- CodecCommandsReadAndWriteNoRegister, and DecodeOfEncode. -/
theorem witness_codec_command : (State.reset.started = true ∧ (nodeA .actuating none).started = true) ∧
    (∃ buf, Instr.chkstart [] = .chkstart buf) ∧ (Instr.chkstart []).wf = true := ⟨⟨rfl, rfl⟩, ⟨_, rfl⟩, rfl⟩
/-- UpdTransitionMatrix: a session, and a sender that is and one that is not the gateway. -/
theorem witness_matrix : (nodeA .active none).started = true ∧ id0001 = (nodeA .active none).cfgGwId ∧
    id0002 ≠ (nodeA .active none).cfgGwId := by decide
/-- UpdRunsTheFrameRowOfItsOpCode. -/
theorem witness_upd_row : OpCode.toByte .ack = 7#8 ∧ DataKind.toByte .na = 6#8 := by decide
/-- RxOfAFrameIsItsReceipt, IdentityGateRejectsEveryOtherSender. -/
theorem witness_other_sender : State.reset.started = true ∧ id0002 ≠ State.reset.cfgGwId ∧
    (List.replicate 65535 0#8).length ≤ 65535 := ⟨rfl, by decide, by rw [List.length_replicate]⟩
/-- RxIsDecThenUpd: both outcomes of DEC occur. -/
theorem witness_rx : (outOf (exec (.dec []) State.reset)).map (·.status) = some .errTruncation ∧
    (outOf (exec (.dec (asc "1000010006000016")) State.reset)).map (·.status) = some .ok := by decide
/-- NodeInitResult's emission, BroadcastCadence's start, ConfirmationNeedsATick's tick. -/
theorem witness_confirmed : (nodeS .initializing).started = true ∧ (nodeS .initializing).mode = .initializing ∧
    (nodeS .initializing).gwConfirmed = true ∧ 1 ≤ (nodeS .initializing).bcastInterval.toNat := by decide
/-- CommandExecResult's emission, in ACTIVE and in ACTUATING. -/
theorem witness_command_exec : (nodeA .active (some [])).started = true ∧
    ((nodeA .active (some [])).mode = .active ∨ (nodeA .active (some [])).mode = .actuating) ∧
    ((nodeA .actuating (some [])).mode = .active ∨ (nodeA .actuating (some [])).mode = .actuating) ∧
    (nodeA .active (some [])).cfgRole = .actuatorNode ∧ (nodeA .active (some [])).answer = some [] ∧
    ([] : Bytes).length ≤ 65535 := by decide
/-- SensorDataResult's emission. -/
theorem witness_sensor_data : ∃ s : State, s.started = true ∧ s.mode = .sensorReporting ∧ s.answer = some [] :=
  ⟨{ nodeS .sensorReporting with answer := some [] }, rfl, rfl, rfl⟩
/-- OverflowKeepsTheStateChange: COMMAND's clause, TICK's clause, and ENC's. -/
theorem witness_overflow_command : ∃ (s : State) (r : Bytes), s.started = true ∧ s.mode = .active ∧
    s.cfgRole = .actuatorNode ∧ s.answer = some r ∧ 65535 < r.length :=
  ⟨nodeA .active (some (List.replicate 65536 0#8)), _, rfl, rfl, rfl, rfl, long_payload⟩
theorem witness_overflow_tick : ∃ (s : State) (v : Bytes), s.started = true ∧ s.mode = .sensorReporting ∧
    s.answer = some v ∧ 65535 < v.length :=
  ⟨{ nodeS .sensorReporting with answer := some (List.replicate 65536 0#8) }, _, rfl, rfl, rfl, long_payload⟩
/-- RstResult's clauses, at kinds 0, 6 and 7. -/
theorem witness_rst : DataKind.toByte .tempS = (0#3).setWidth 8 ∧ DataKind.toByte .na = (6#3).setWidth 8 ∧
    (6#3).toNat ≤ 6 ∧ ¬ (7#3).toNat ≤ 6 := by decide
/-- BeforeTheFirstRstOnlyRst. -/
theorem witness_before_rst : powerUp.started = false ∧ isRst (.dec []) = false := by decide
/-- InASessionEveryCommandCompletes. -/
theorem witness_completes : State.reset.started = true ∧
    ∀ cfg, Instr.rst State.resetCfg = .rst cfg → cfg.announceKind ≠ 7#3 :=
  ⟨rfl, fun _ h => by cases h; decide⟩
/-- RstEstablishesTheInvariants, ConfigurationIsImmutableAfterRst, FailuresArePrecise and the statements over any command
with a next state. -/
theorem witness_next : 1 ≤ State.reset.bcastInterval.toNat ∧ ∃ t, exec (.rst State.resetCfg) State.reset = .next t :=
  ⟨by decide, _, rfl⟩
/-- EveryStepKeepsTheInvariants: a state of a session, waiting, and one with a command to run. -/
theorem witness_step : SessionInv (nodeS .active) ∧ BlockInv powerUp ∧ ∃ t, step (nodeS .active) = .next t := by
  refine ⟨?_, ⟨by decide, fun h => by cases h⟩, _, rfl⟩
  constructor <;> decide
/-- GatewayConfirmedWriters: the flag is set, and cleared. -/
theorem witness_flag : (nextOf (exec (.gatewayInit id0001 .na []) State.reset)).map (·.gwConfirmed) = some true ∧
    (nextOf (exec (.rst State.resetCfg) (nodeS .active))).map (·.gwConfirmed) = some false := by decide
/-- ModeChangesOnlyAlongItsEdges: every edge is taken (the edge to SENSOR_REPORTING: test_sensor_data_req; INIT_SUCCESS's:
test_init_success; RST's: test_rst_new_session). -/
theorem witness_mode_edges : (nextOf (exec .tick (nodeS .initializing))).map (·.mode) = some .broadcasting ∧
    (nextOf (exec .tick { nodeS .sensorReporting with answer := some [] })).map (·.mode) = some .active ∧
    (nextOf (exec (.command id0001 .act1 []) (nodeA .active (some [])))).map (·.mode) = some .actuating := by decide
/-- CounterAndLatchWriters: both registers change. -/
theorem witness_counter : (nextOf (exec .tick (nodeS .broadcasting))).map (·.bcastCnt) = some 1#16 ∧
    (nextOf (exec .tick { nodeS .broadcasting with bcastCnt := 9#16 })).map (·.bcastCnt) = some 0#16 ∧
    (nextOf (exec .tick { nodeS .initializing with bcastCnt := 9#16 })).map (·.bcastCnt) = some 0#16 ∧
    (nextOf (exec (.sensorDataReq id0001 .act2 []) (nodeS .active))).map (·.pendKind) = some .act2 := by decide
/-- FailuresArePrecise: a rejection, and a decode failure with its INFO (the overflow's report: witness_overflow_tick). -/
theorem witness_failure : (outOf (exec (.ack id0002 .na []) (nodeS .active))).map (·.status) = some .rejIdentity ∧
    parseFrame [] = .error (.truncation 0) ∧ (outOf (exec (.rx []) (nodeS .active))).bind (·.info) = some 0 := by decide
/-- OnlyCommandAndTickEmit, RequestsAreMadeOnlyWhereTheRulesSay: a frame is emitted on a request. -/
theorem witness_emission :
    (outOf (exec (.command id0001 .act1 []) (nodeA .active (some [])))).map (fun o => (o.tx.isSome, o.request.isSome)) =
      some (true, true) := by decide
/-- RunsDependOnRegistersCommandsAndDraws: two states that differ outside the registers. -/
theorem witness_runs : ∃ s t : State, s ≠ t ∧ sameRegisters s t ∧ s.started = t.started ∧
    s.bcastInterval = t.bcastInterval ∧ s.pending = t.pending ∧ s.pending ≠ [] ∧
    ∀ x ∈ s.pending, x.draw.isSome = true :=
  ⟨{ State.reset with pending := [⟨.hostCmd 6#3 [], some []⟩] },
    { State.reset with pending := [⟨.hostCmd 6#3 [], some []⟩], drawCount := 1 },
    by decide, ⟨rfl, rfl, rfl, rfl, rfl, rfl, rfl, rfl, rfl⟩, rfl, rfl, rfl, by decide, by decide⟩
/-- RunsDependOnRegistersCommandsAndDraws: commands that carry no draw, and the same number of draws taken. -/
theorem witness_runs_no_draw : ∃ s t : State, s ≠ t ∧ sameRegisters s t ∧ s.started = t.started ∧
    s.bcastInterval = t.bcastInterval ∧ s.pending = t.pending ∧ s.pending = [⟨.hostCmd 6#3 [], none⟩] ∧
    s.drawCount = t.drawCount :=
  ⟨{ State.reset with pending := [⟨.hostCmd 6#3 [], none⟩] },
    { State.reset with pending := [⟨.hostCmd 6#3 [], none⟩], answer := some [] },
    by decide, ⟨rfl, rfl, rfl, rfl, rfl, rfl, rfl, rfl, rfl⟩, rfl, rfl, rfl, rfl, rfl⟩
/-- BroadcastCadence: a run that stays in BROADCASTING, with a command between the ticks. -/
theorem witness_cadence :
    (runInstrs [.tick, .ack id0001 .na [], .tick] (nodeS .initializing)).map (·.mode) = some .broadcasting := by decide
/-- ConfirmationNeedsATick: an accepted GATEWAY_INIT, in UPD, and a window with a message and a codec command in it. -/
theorem witness_confirmation_window : State.reset.started = true ∧ State.reset.mode = .initializing ∧
    delivers (.upd ⟨id0001, 0#8, 6#8, 0#16, []⟩) State.reset.cfgGwId .gatewayInit .na [] ∧
    (∃ t, exec (.upd ⟨id0001, 0#8, 6#8, 0#16, []⟩) State.reset = .next t) ∧
    (∀ j ∈ [Instr.initSuccess id0001 .na [], .dec []], inWindow j) ∧
    delivers (.initSuccess id0001 .na []) State.reset.cfgGwId .initSuccess .na [] :=
  ⟨rfl, rfl, .inr (.inl ⟨_, rfl, rfl, rfl, rfl, rfl⟩), ⟨_, rfl⟩, by decide, .inl rfl⟩
/-- TheReportingWindow: an accepted SENSOR_DATA_REQ, in RX, and a window with a second one in it. -/
theorem witness_reporting_window : (nodeS .active).started = true ∧ (nodeS .active).cfgRole = .sensorNode ∧
    delivers (.rx (asc "1000010501000016")) (nodeS .active).cfgGwId .sensorDataReq .lightS [] ∧
    (∃ t, exec (.rx (asc "1000010501000016")) (nodeS .active) = .next t) ∧
    (∀ j ∈ [Instr.sensorDataReq id0001 .tempS [], .enc id0001 9#8 9#8 []], inWindow j) :=
  ⟨rfl, rfl, .inr (.inr ⟨_, 0#16, rfl, by decide⟩), ⟨_, rfl⟩, by decide⟩
/-- StepRunsTheDecodedInstruction and CommandCodeSevenIsRefused, each clause. -/
theorem witness_issue : decode (.hostCmd 6#3 []) = .ok .tick ∧ parseFrame [] = .error (.truncation 0) ∧
    State.reset.pending = [] ∧ ({ State.reset with pending := [⟨.hostCmd 7#3 [], none⟩] } : State).pending =
      [⟨.hostCmd 7#3 [], none⟩] := by decide
/-- MalformedBundlesAreRefused and StepRunsTheDecodedInstruction's refusal: bundles at the edge of their shapes. -/
theorem witness_malformed : decode (.hostCmd 6#3 [0#8]) = .error (.badOperands 6#3) ∧
    decode (.hostCmd 1#3 (asc "11016")) = .error (.badOperands 1#3) ∧
    decode (.hostCmd 1#3 (asc "110160")) = .ok (.enc id1101 0x36#8 0x30#8 []) ∧
    decode (.hostCmd 4#3 (asc "1101600")) = .error (.badOperands 4#3) ∧
    decode (.hostCmd 0#3 (asc "11010001" ++ [2#8, 0#8, 0#8])) = .error (.badOperands 0#3) ∧
    decode (.hostCmd 0#3 (asc "11010001" ++ [1#8, 7#8, 127#8])) = .ok (.rst ⟨id1101, id0001, .actuatorNode, 7#3, 127#7⟩) ∧
    refusalOf (step { State.reset with pending := [⟨.hostCmd 6#3 [0#8], none⟩] }) = some (.malformedOperands 6#3) := by
  decide
/-- KindSetGuardsNothing: a command that is not RST, and a kind set that differs. -/
theorem witness_kind_set : isRst .tick = false ∧ State.reset.cfgKinds ≠ 0#7 := by decide
/-- EncodeOfDecodedHostCommand and PseudoInstructionsExpand's counts. -/
theorem witness_host_word : decode (.hostCmd 5#3 []) = .ok (.rx []) ∧ (1 : Nat) ≤ 1 := by decide

end Sys2Proof.Machine.Tests
end

section
/-! The emission's rules field by field, and everything a step can do: the layer that statements about all commands and
all steps start from. -/

namespace Sys2Proof.Machine

section Emit
variable (op : OpCode) (kind : DataKind) (p : Bytes) (s : State)

@[simp] theorem emit_cfgNodeId : (emit op kind p s).cfgNodeId = s.cfgNodeId := by rw [emit_eq_setOut]; rfl
@[simp] theorem emit_cfgGwId : (emit op kind p s).cfgGwId = s.cfgGwId := by rw [emit_eq_setOut]; rfl
@[simp] theorem emit_cfgRole : (emit op kind p s).cfgRole = s.cfgRole := by rw [emit_eq_setOut]; rfl
@[simp] theorem emit_cfgAnnounceKind : (emit op kind p s).cfgAnnounceKind = s.cfgAnnounceKind := by
  rw [emit_eq_setOut]; rfl
@[simp] theorem emit_cfgKinds : (emit op kind p s).cfgKinds = s.cfgKinds := by rw [emit_eq_setOut]; rfl
@[simp] theorem emit_mode : (emit op kind p s).mode = s.mode := by rw [emit_eq_setOut]; rfl
@[simp] theorem emit_gwConfirmed : (emit op kind p s).gwConfirmed = s.gwConfirmed := by rw [emit_eq_setOut]; rfl
@[simp] theorem emit_bcastCnt : (emit op kind p s).bcastCnt = s.bcastCnt := by rw [emit_eq_setOut]; rfl
@[simp] theorem emit_pendKind : (emit op kind p s).pendKind = s.pendKind := by rw [emit_eq_setOut]; rfl
@[simp] theorem emit_started : (emit op kind p s).started = s.started := by rw [emit_eq_setOut]; rfl
@[simp] theorem emit_bcastInterval : (emit op kind p s).bcastInterval = s.bcastInterval := by rw [emit_eq_setOut]; rfl
@[simp] theorem emit_pending : (emit op kind p s).pending = s.pending := by rw [emit_eq_setOut]; rfl
@[simp] theorem emit_answer : (emit op kind p s).answer = s.answer := by rw [emit_eq_setOut]; rfl
@[simp] theorem emit_drawCount : (emit op kind p s).drawCount = s.drawCount := by rw [emit_eq_setOut]; rfl

end Emit

/-- Fetching writes no register, and neither the interval nor whether a session has begun. -/
theorem fetch_sameRegisters {s u : State} {w : HostWord} (h : fetch s = some (w, u)) :
    sameRegisters s u ∧ u.started = s.started ∧ u.bcastInterval = s.bcastInterval := by
  cases hp : s.pending with
  | nil => rw [fetch_none.mpr hp] at h; cases h
  | cons x rest =>
    rw [fetch_cons hp] at h
    cases h
    exact ⟨⟨rfl, rfl, rfl, rfl, rfl, rfl, rfl, rfl, rfl⟩, rfl, rfl⟩

/-- Of the words that decode to no instruction only a received buffer has a next state: RX's. -/
theorem rejectWord_next {w : HostWord} {e : DecodeError} {s t : State} :
    rejectWord w e s = .next t ↔ ∃ buf, w = .frame buf ∧ exec (.rx buf) s = .next t := by
  cases w with
  | frame buf => simp [rejectWord, exec]
  | hostCmd code operands => cases e <;> simp [rejectWord]

/-- What a step with a next state does: it waits, or runs the command of the word it takes off. -/
inductive StepEffect (s : State) : State → Prop where
  | wait (hf : fetch s = none) : StepEffect s s
  | ran (w : HostWord) (u : State) (i : Instr) (t : State) (hf : fetch s = some (w, u)) (hd : decode w = .ok i)
      (he : exec i u = .next t) : StepEffect s t
  | undecoded (buf : Bytes) (u : State) (e : DecodeError) (t : State) (hf : fetch s = some (.frame buf, u))
      (hd : decode (.frame buf) = .error e) (he : exec (.rx buf) u = .next t) : StepEffect s t

/-- A step with a next state does one of these. -/
theorem step_effect {s t : State} (h : step s = .next t) : StepEffect s t := by
  unfold step at h
  split at h
  · cases h
    exact .wait (by assumption)
  · rename_i w u hf
    split at h
    · exact .ran w u _ t hf (by assumption) h
    · obtain ⟨buf, rfl, he⟩ := rejectWord_next.mp h
      exact .undecoded buf u _ t hf (by assumption) he

end Sys2Proof.Machine
end

section
/-! The configuration registers, the interval and what the host has yet to issue (10_state.md R38): what every command
but RST leaves as it was. -/

namespace Sys2Proof.Machine

/-- Two states agree on the configuration registers (R38), the interval (00_scope.md R9), and what the host has yet to
issue. -/
def sameSetting (s t : State) : Prop :=
  sameConfig s t ∧ t.bcastInterval = s.bcastInterval ∧ t.pending = s.pending

/-- Setting output ports leaves the setting. -/
theorem sameSetting_setOut (s : State) (o : Outputs) : sameSetting s (s.setOut o) := by
  simp [sameSetting, sameConfig]

/-- A message leaves the setting. -/
theorem UpdateEffect.keeps_setting {id : NodeId} {op : OpCode} {kind : DataKind} {payload : Bytes} {s t : State}
    (h : UpdateEffect id op kind payload s t) : sameSetting s t := by
  cases h with
  | identity | opmode | role | ack => exact sameSetting_setOut s _
  | confirm | activate | report => simp [sameSetting, sameConfig]
  | apply => simp [sameSetting, sameConfig, applyCommand]

/-- A tick leaves the setting. -/
theorem TickEffect.keeps_setting {s t : State} (h : TickEffect s t) : sameSetting s t := by
  cases h with
  | idle => exact sameSetting_setOut s _
  | enter | again => simp [sameSetting, sameConfig, announce]
  | count => simp [sameSetting, sameConfig]
  | sample => simp [sameSetting, sameConfig, tickSensorReporting]

/-- A command is RST, which leaves the interval and what the host has yet to issue, or leaves the whole setting. -/
theorem CommandEffect.rst_or_sameSetting {i : Instr} {s t : State} (h : CommandEffect i s t) :
    (isRst i = true ∧ t.bcastInterval = s.bcastInterval ∧ t.pending = s.pending) ∨ sameSetting s t := by
  cases h with
  | reset cfg kind hi => exact .inl ⟨by rw [hi]; rfl, rfl, rfl⟩
  | packed | parsed | checked | rejected | undecoded => exact .inr (sameSetting_setOut s _)
  | updated _ _ _ _ _ _ _ hu => exact .inr hu.keeps_setting
  | ticked _ _ _ ht => exact .inr ht.keeps_setting

/-- Settles O37: RST leaves the interval and what is pending, and every other command leaves the whole setting. -/
theorem configurationIsImmutableAfterRst : Obligations.ConfigurationIsImmutableAfterRst := by
  intro i s t h
  rcases (exec_effect h).rst_or_sameSetting with ⟨hrst, hframe⟩ | ⟨hcfg, hframe⟩
  · exact ⟨fun hi => by simp [hrst] at hi, hframe⟩
  · exact ⟨fun _ => hcfg, hframe⟩

end Sys2Proof.Machine
end

section
/-! The session invariants (10_state.md R44): one rule per state operation, then each effect of a message, a tick, a
command and a step. -/

namespace Sys2Proof.Machine

/-- The invariants read the registers and the interval only. -/
theorem SessionInv.of_sameRegisters {s t : State} (h : SessionInv s) (hr : sameRegisters s t)
    (hb : t.bcastInterval = s.bcastInterval) : SessionInv t := by
  obtain ⟨-, -, hrole, -, -, hmode, hgw, hcnt, -⟩ := hr
  obtain ⟨interval, unconfirmed, confirmed, reporting, actuating, count⟩ := h
  constructor <;> simp_all

/-- A session that meets the invariants is a block that does. -/
theorem SessionInv.blockInv {s : State} (h : SessionInv s) : BlockInv s := ⟨h.interval, fun _ => h⟩

/-! ## One rule per state operation -/

section
variable {s : State}

theorem SessionInv.setOut (h : SessionInv s) (o : Outputs) : SessionInv (s.setOut o) :=
  h.of_sameRegisters (by simp [sameRegisters]) rfl

theorem SessionInv.complete (h : SessionInv s) : SessionInv (complete s) := h.setOut _

theorem SessionInv.emit (h : SessionInv s) (op : OpCode) (kind : DataKind) (p : Bytes) :
    SessionInv (emit op kind p s) := by
  rw [emit_eq_setOut]
  exact h.setOut _

theorem SessionInv.announce (h : SessionInv s) : SessionInv (announce s) := h.emit _ _ _

theorem SessionInv.afterDraw (h : SessionInv s) (r : Request) : SessionInv (afterDraw r s) :=
  h.of_sameRegisters (by simp [sameRegisters]) rfl

/-- PEND_KIND stands in no invariant of R44 that the types leave open. -/
theorem SessionInv.setPendKind (h : SessionInv s) (k : DataKind) : SessionInv (s.setPendKind k) :=
  ⟨h.interval, h.unconfirmed, h.confirmed, h.reporting, h.actuating, h.count⟩

theorem SessionInv.confirmGateway (h : SessionInv s) : SessionInv s.confirmGateway :=
  { h with unconfirmed := by simp, confirmed := by simp }

/-- A confirmed node may enter any mode its role admits. -/
theorem SessionInv.setMode {m : Mode} (h : SessionInv s) (hg : s.gwConfirmed = true)
    (hr : m = .sensorReporting → s.cfgRole = .sensorNode) (ha : m = .actuating → s.cfgRole = .actuatorNode) :
    SessionInv (s.setMode m) where
  interval := h.interval
  unconfirmed := by simp [hg]
  confirmed := fun _ => hg
  reporting := hr
  actuating := ha
  count := h.count

/-- The counter may take any value below the interval. -/
theorem SessionInv.setBcastCnt {n : BitVec 16} (h : SessionInv s) (hn : n.toNat < s.bcastInterval.toNat) :
    SessionInv (s.setBcastCnt n) :=
  { h with count := hn }

end

/-! ## Each effect -/

/-- RST establishes the invariants, given R9's bound on the interval. -/
theorem sessionInv_startSession (cfg : RstCfg) (kind : DataKind) {s : State} (h : 1 ≤ s.bcastInterval.toNat) :
    SessionInv (startSession cfg kind s) where
  interval := h
  unconfirmed := fun _ => rfl
  confirmed := fun hm => absurd rfl hm
  reporting := nofun
  actuating := nofun
  count := h

/-- A message keeps the invariants: the modes that need a role are entered behind the role guard. -/
theorem UpdateEffect.sessionInv {id : NodeId} {op : OpCode} {kind : DataKind} {payload : Bytes} {s t : State}
    (e : UpdateEffect id op kind payload s t) (h : SessionInv s) : SessionInv t := by
  cases e with
  | identity | opmode | role | ack => exact h.setOut _
  | confirm => exact h.confirmGateway.complete
  | activate hid ho hm =>
    have hg : s.gwConfirmed = true := h.confirmed (by simp [hm])
    exact (h.setMode hg (by simp) (by simp)).complete
  | report hid ho hm hr =>
    have hg : s.gwConfirmed = true := h.confirmed (by simp [hm])
    exact ((h.setMode hg (fun _ => hr) (by simp)).setPendKind _).complete
  | apply hid ho hm hr =>
    have hg : s.gwConfirmed = true := h.confirmed (by rcases hm with hm | hm <;> simp [hm])
    exact ((h.complete.afterDraw _).setMode (m := .actuating) hg (by simp) (fun _ => hr)).emit _ _ _

/-- A tick keeps the invariants: BCAST_CNT returns to 0 before it reaches the interval. -/
theorem TickEffect.sessionInv {s t : State} (e : TickEffect s t) (h : SessionInv s) : SessionInv t := by
  have hzero : (0#16).toNat < s.bcastInterval.toNat := h.interval
  cases e with
  | idle => exact h.complete
  | enter hm hg => exact ((h.complete.setMode hg (by simp) (by simp)).setBcastCnt hzero).announce
  | again => exact (h.complete.setBcastCnt hzero).announce
  | count hm hg hc =>
    have hn : (s.bcastCnt + 1#16).toNat < s.bcastInterval.toNat := by bv_omega
    exact h.complete.setBcastCnt hn
  | sample hm =>
    have hg : s.gwConfirmed = true := h.confirmed (by simp [hm])
    exact ((h.complete.afterDraw _).setMode (m := .active) hg (by simp) (by simp)).emit _ _ _

/-- A command with a next state leaves a session that meets the invariants: RST begins one, and every other command runs
in one. -/
theorem BlockInv.exec_next {i : Instr} {s t : State} (h : BlockInv s) (he : exec i s = .next t) : SessionInv t := by
  obtain ⟨hinterval, hsession⟩ := h
  cases exec_effect he with
  | reset cfg kind => exact sessionInv_startSession cfg kind hinterval
  | packed _ hs | parsed _ hs | checked _ hs | rejected _ _ hs | undecoded _ _ hs => exact (hsession hs).setOut _
  | updated _ _ _ _ _ hs _ hu => exact hu.sessionInv (hsession hs)
  | ticked _ hs _ ht => exact ht.sessionInv (hsession hs)

/-- Taking the next word off keeps the invariants. -/
theorem BlockInv.fetch_some {s u : State} {w : HostWord} (h : BlockInv s) (hf : fetch s = some (w, u)) :
    BlockInv u := by
  obtain ⟨hr, hstarted, hb⟩ := fetch_sameRegisters hf
  obtain ⟨hinterval, hsession⟩ := h
  exact ⟨hb ▸ hinterval, fun hs => (hsession (hstarted ▸ hs)).of_sameRegisters hr hb⟩

/-- Settles O36: a step waits, or takes a word off and runs one command, and each of these keeps the invariants. -/
theorem everyStepKeepsTheInvariants : Obligations.EveryStepKeepsTheInvariants := by
  intro s t h hstep
  cases step_effect hstep with
  | wait => exact h
  | ran w u i _ hf _ he => exact ((h.fetch_some hf).exec_next he).blockInv
  | undecoded buf u _ _ hf _ he => exact ((h.fetch_some hf).exec_next he).blockInv

end Sys2Proof.Machine
end

section
/-! What ENC packs (40_codec.md R144) and where the fields of its frame stand (30_encoding.md R100). -/

namespace Sys2Proof.Machine

/-- The ordinal check passes exactly where both bytes are below the reserved ranges (R115, R116). -/
theorem checkedOrdinals_isSome_iff {op kind : Byte} :
    (checkedOrdinals op kind).isSome ↔ op.toNat ≤ 7 ∧ kind.toNat ≤ 6 := by
  have ho := OpCode.ofByte_isSome op
  have hk := DataKind.ofByte_isSome kind
  unfold checkedOrdinals
  split
  · simp_all
  · split <;> simp_all

/-- ENC packs a frame exactly where both ordinals and the length are in range, and it is the message's frame. -/
theorem packFrame_toOption_eq_some {id : NodeId} {op kind : Byte} {payload f : Bytes} :
    (packFrame id op kind payload).toOption = some f ↔
      op.toNat ≤ 7 ∧ kind.toNat ≤ 6 ∧ payload.length ≤ 65535 ∧ f = frameBytes id op kind payload := by
  rw [← and_assoc, ← checkedOrdinals_isSome_iff, packFrame]
  cases checkedOrdinals op kind with
  | none => simp [Except.toOption]
  | some _ =>
    by_cases hlen : payload.length ≤ 65535
    · simp [Except.toOption, if_neg (Nat.not_lt.mpr hlen : ¬ payload.length > Config.lMax), hlen, eq_comm]
    · simp [Except.toOption, if_pos (Nat.not_le.mp hlen : payload.length > Config.lMax), hlen]

/-- FRAME after ENC is the frame it packs, and absent where a check fails. -/
theorem exec_enc_frame {id : NodeId} {op kind : Byte} {payload : Bytes} {s t : State}
    (h : exec (.enc id op kind payload) s = .next t) : t.out.frame = (packFrame id op kind payload).toOption := by
  simp only [exec, execEnc, inSession_next] at h
  obtain ⟨-, rfl⟩ := h
  cases packFrame id op kind payload <;> rfl

/-- The start sentinel's characters (R103). -/
theorem hexPair_sm : hexPair Config.sm = [0x31#8, 0x30#8] := by decide

/-- The end sentinel's characters (R109). -/
theorem hexPair_em : hexPair Config.em = [0x31#8, 0x36#8] := by decide

section
variable (id : NodeId) (op kind : Byte) (payload : Bytes)

/-- The 14 header characters stand before the payload and the end marker. -/
theorem frameBytes_drop_hdrLen : (frameBytes id op kind payload).drop 14 = payload ++ hexPair Config.em := rfl

/-- A frame is its payload and 16 characters more (R101). -/
theorem frameBytes_length : (frameBytes id op kind payload).length = 16 + payload.length := by
  simp only [frameBytes, hexPair, NodeId.toBytes, List.length_append, List.length_cons, List.length_nil]
  omega

/-- The payload stands at offset 14. -/
theorem frameBytes_payload : ((frameBytes id op kind payload).drop 14).take payload.length = payload := by
  rw [frameBytes_drop_hdrLen, List.take_left]

/-- The end marker stands right after the payload. -/
theorem frameBytes_endMarker : (frameBytes id op kind payload).drop (14 + payload.length) = hexPair Config.em := by
  rw [← List.drop_drop, frameBytes_drop_hdrLen, List.drop_left]

end

/-- Settles O3: FRAME is the message's frame, whose header fields stand at fixed offsets and whose end marker stands at
the payload's end. -/
theorem encFrameFieldsAtTheirOffsets : Obligations.EncFrameFieldsAtTheirOffsets := by
  intro id op kind payload f s t h hf
  rw [exec_enc_frame h, packFrame_toOption_eq_some] at hf
  obtain ⟨hop, hkind, hlen, rfl⟩ := hf
  refine ⟨frameBytes_length .., ?marker, rfl, rfl, hop, rfl, hkind, rfl, rfl, frameBytes_payload .., hlen, ?endMarker⟩
  case marker => exact hexPair_sm
  case endMarker => rw [frameBytes_endMarker, hexPair_em]

end Sys2Proof.Machine
end

section
/-! The pseudo-instructions (30_encoding.md R124) and the reserved command code (R122). -/

namespace Sys2Proof.Machine

/-- RXM issues RX of the frame ENC packs, and nothing where ENC packs none. -/
theorem expand_rxm (id : NodeId) (op kind : Byte) (payload : Bytes) (d : Option Bytes) :
    Line.expand (.rxm id op kind payload d) =
      (packFrame id op kind payload).toOption.map fun f => [⟨.hostCmd 5#3 f, d⟩] := by
  simp only [Line.expand]
  cases packFrame id op kind payload <;> rfl

/-- TICKS k issues k lines. -/
theorem length_tickIssues (k : Nat) (ds : List (Option Bytes)) : (tickIssues k ds).length = k := by
  induction k generalizing ds with
  | zero => rfl
  | succ k ih => simp [tickIssues, ih]

/-- The j-th line of TICKS k is a TICK with the j-th draw, or none past the list's end. -/
theorem getElem?_tickIssues {k j : Nat} (hj : j < k) (ds : List (Option Bytes)) :
    (tickIssues k ds)[j]? = some ⟨.hostCmd 6#3 [], (ds[j]?).getD none⟩ := by
  induction k generalizing j ds with
  | zero => omega
  | succ k ih =>
    cases j with
    | zero => cases ds <;> rfl
    | succ j =>
      rw [tickIssues, List.getElem?_cons_succ, ih (by omega), List.getElem?_tail]

/-- Settles O55: RXM through what ENC's FRAME holds, TICKS by induction on its count. -/
theorem pseudoInstructionsExpand : Obligations.PseudoInstructionsExpand := by
  refine ⟨fun id op kind payload d s t h => ?rxm, fun k ds => ⟨?none, fun hk => ?ticks⟩⟩
  case rxm =>
    rw [expand_rxm, exec_enc_frame h]
    cases packFrame id op kind payload <;> rfl
  case none =>
    rintro rfl
    rfl
  case ticks =>
    have expand : Line.expand (.ticks k ds) = some (tickIssues k ds) := if_neg (by omega)
    exact ⟨_, expand, length_tickIssues k ds, fun j hj => ⟨_, getElem?_tickIssues hj ds, rfl⟩⟩

/-- Settles O51: the decoder looks at the code before the operands, and the reserved code's rejection is a refusal. -/
theorem commandCodeSevenIsRefused : Obligations.CommandCodeSevenIsRefused := by
  intro s operands d rest h
  have reserved : decode (.hostCmd 7#3 operands) = .error .reservedCode := rfl
  simp only [step, fetch_cons h, reserved, rejectWord]

end Sys2Proof.Machine
end

section
/-! The hex primitives in numbers, and the strict decoder: the only two characters that decode to a byte are its own hex
pair (40_codec.md R140 to R143). -/

namespace Sys2Proof.Machine

/-- R140 in numbers. -/
theorem hexDigit_eq (v : BitVec 4) :
    hexDigit v = BitVec.ofNat 8 (if v.toNat ≤ 9 then 0x30 + v.toNat else 0x41 + (v.toNat - 10)) := by
  revert v
  decide

/-- R141 in numbers: the high nibble's digit, then the low's. -/
theorem hexPair_eq (b : Byte) :
    hexPair b = [hexDigit (BitVec.ofNat 4 (b.toNat / 16)), hexDigit (BitVec.ofNat 4 (b.toNat % 16))] := by
  revert b
  decide

/-- R142 in numbers: the digits and the uppercase letters, and nothing else. -/
theorem hexVal_eq (c : Byte) :
    hexVal c =
      if 0x30 ≤ c.toNat ∧ c.toNat ≤ 0x39 then some (BitVec.ofNat 4 (c.toNat - 0x30))
      else if 0x41 ≤ c.toNat ∧ c.toNat ≤ 0x46 then some (BitVec.ofNat 4 (c.toNat - 0x41 + 10))
      else none := by
  revert c
  decide

/-- Two digit values as a byte, in numbers. -/
theorem nibbles_eq_ofNat (h l : BitVec 4) :
    16#8 * h.setWidth 8 + l.setWidth 8 = BitVec.ofNat 8 (16 * h.toNat + l.toNat) := by
  revert h l
  decide

/-- The hex pair of two digit values is their digits. -/
theorem hexPair_nibbles (h l : BitVec 4) : hexPair (16#8 * h.setWidth 8 + l.setWidth 8) = [hexDigit h, hexDigit l] := by
  revert h l
  decide

/-- A character with a value is that value's digit: lowercase and every other character have none (D9). -/
theorem hexDigit_of_hexVal {c : Byte} {v : BitVec 4} (h : hexVal c = some v) : hexDigit v = c := by
  have all : ∀ c : Byte, ∀ v ∈ hexVal c, hexDigit v = c := by decide
  exact all c v h

/-- Two characters decode to a byte exactly where they are its hex pair. -/
theorem hexByte_eq_some_iff {a b v : Byte} : hexByte a b = some v ↔ [a, b] = hexPair v := by
  constructor
  · intro h
    unfold hexByte at h
    split at h
    case h_1 hi lo ha hb =>
      cases h
      rw [hexPair_nibbles, hexDigit_of_hexVal ha, hexDigit_of_hexVal hb]
    case h_2 => cases h
  · intro h
    obtain ⟨rfl, rfl⟩ : a = hexDigit (v.extractLsb' 4 4) ∧ b = hexDigit (v.extractLsb' 0 4) := by
      simpa [hexPair] using h
    exact hexByte_hexPair v

/-- Settles O1: the primitives in numbers, and the strict decoder as an equivalence. -/
theorem hexPairsAreTheDecodablePairs : Obligations.HexPairsAreTheDecodablePairs := by
  refine ⟨hexDigit_eq, hexPair_eq, hexVal_eq, fun a b => ?hexByte, fun b => hexByte_eq_some_iff.mpr rfl,
    fun a b v => hexByte_eq_some_iff.mp⟩
  case hexByte =>
    unfold hexByte
    cases hexVal a with
    | none => rfl
    | some h =>
      cases hexVal b with
      | none => rfl
      | some l => exact congrArg some (nibbles_eq_ofNat h l)

/-- A byte inside a buffer. -/
theorem byteAt_eq_getElem {buf : Bytes} {k : Nat} (h : k < buf.length) : byteAt buf k = buf[k] := by
  simp [byteAt, h]

/-- The two bytes at an offset inside a buffer. -/
theorem take_two_drop {buf : Bytes} {k : Nat} (h : k + 2 ≤ buf.length) :
    (buf.drop k).take 2 = [byteAt buf k, byteAt buf (k + 1)] := by
  rw [List.drop_eq_getElem_cons (by omega), List.drop_eq_getElem_cons (by omega), byteAt_eq_getElem (by omega),
    byteAt_eq_getElem (by omega)]
  rfl

/-- The pair at an offset inside a buffer decodes to a byte exactly where it is that byte's hex pair. -/
theorem pairAt_eq_some_iff {buf : Bytes} {k : Nat} {v : Byte} (h : k + 2 ≤ buf.length) :
    pairAt buf k = some v ↔ (buf.drop k).take 2 = hexPair v := by
  rw [take_two_drop h]
  exact hexByte_eq_some_iff

end Sys2Proof.Machine
end

section
/-! ENC and DEC in a session: what each puts on the ports, by what the packer and the parser answer (40_codec.md R144,
R150). -/

namespace Sys2Proof.Machine

/-- In a session a command has its result as next state. -/
theorem inSession_of_started {s : State} (hs : s.started = true) (t : State) : inSession s t = .next t :=
  inSession_next.mpr ⟨hs, rfl⟩

/-- The packer's checks in order (R144). -/
theorem packFrame_eq (id : NodeId) (op kind : Byte) (payload : Bytes) :
    packFrame id op kind payload =
      if 7 < op.toNat then .error .errEnum
      else if 6 < kind.toNat then .error .errEnum
      else if 65535 < payload.length then .error .errOverflow
      else .ok (frameBytes id op kind payload) := by
  have ordinals := checkedOrdinals_isSome_iff (op := op) (kind := kind)
  unfold packFrame
  split
  case h_1 hnone =>
    have range : ¬ (op.toNat ≤ 7 ∧ kind.toNat ≤ 6) := by simpa [hnone] using ordinals
    by_cases hop : 7 < op.toNat
    · rw [if_pos hop]
    · rw [if_neg hop, if_pos (by omega)]
  case h_2 hsome =>
    have range : op.toNat ≤ 7 ∧ kind.toNat ≤ 6 := by simpa [hsome] using ordinals
    rw [if_neg (by omega : ¬ 7 < op.toNat), if_neg (by omega : ¬ 6 < kind.toNat)]
    rfl

section
variable {s : State} (hs : s.started = true)
include hs

/-- ENC of operands the packer accepts. -/
theorem exec_enc_ok {id : NodeId} {op kind : Byte} {payload f : Bytes} (h : packFrame id op kind payload = .ok f) :
    exec (.enc id op kind payload) s = .next (s.setOut { status := .ok, frame := some f }) := by
  simp only [exec, execEnc, h, inSession_of_started hs, okOutputs]

/-- ENC of operands the packer rejects. -/
theorem exec_enc_error {id : NodeId} {op kind : Byte} {payload : Bytes} {e : Status}
    (h : packFrame id op kind payload = .error e) :
    exec (.enc id op kind payload) s = .next (s.setOut { status := e, report := some e }) := by
  simp only [exec, execEnc, h, inSession_of_started hs, raise, failedOutputs]

/-- DEC of a buffer that parses. -/
theorem exec_dec_ok {buf : Bytes} {p : ParsedFrame} (h : parseFrame buf = .ok p) :
    exec (.dec buf) s = .next (s.setOut
      { status := .ok, msg := some (messageOf p), flen := some (16 + p.len.toNat) }) := by
  simp only [exec, execDec, h, inSession_of_started hs, okOutputs, Config.ovh]

/-- DEC of a buffer that does not parse. -/
theorem exec_dec_error {buf : Bytes} {e : CodecError} (h : parseFrame buf = .error e) :
    exec (.dec buf) s = .next (s.setOut
      { status := errorStatus e, report := some (errorStatus e), info := some (errorOffset e) }) := by
  simp only [exec, execDec, h, inSession_of_started hs, raiseCodec, raise, failedOutputs]

end

/-- Settles O2: each of the packer's checks in turn, and the frame with the sentinels' characters written out. -/
theorem encResult : Obligations.EncResult := by
  intro id op kind payload s hs
  refine ⟨rfl, ?_⟩
  have pack := packFrame_eq id op kind payload
  split at pack
  case isTrue hop => rw [exec_enc_error hs pack, if_pos hop]; rfl
  case isFalse hop =>
    rw [if_neg hop]
    split at pack
    case isTrue hkind => rw [exec_enc_error hs pack, if_pos hkind]; rfl
    case isFalse hkind =>
      rw [if_neg hkind]
      split at pack
      case isTrue hlen => rw [exec_enc_error hs pack, if_pos hlen]; rfl
      case isFalse hlen =>
        rw [exec_enc_ok hs pack, if_neg hlen, frameBytes, hexPair_sm, hexPair_em]
        rfl

end Sys2Proof.Machine
end

section
/-! What DEC reads after a good header (40_codec.md R152), and the round trip of ENC and DEC (R145). -/

namespace Sys2Proof.Machine

/-- The 14 header characters of a frame that declares the length `l` (30_encoding.md R100). -/
def headerBytes (id : NodeId) (op : OpCode) (kind : DataKind) (l : Nat) : Bytes :=
  [0x31#8, 0x30#8] ++ id.toBytes ++ hexPair op.toByte ++ hexPair kind.toByte ++ hexPair (lenLo l) ++ hexPair (lenHi l)

section
variable (id : NodeId) (op : OpCode) (kind : DataKind)

/-- A frame is its header, its payload and the end marker. -/
theorem frameBytes_eq_header (payload : Bytes) :
    frameBytes id op.toByte kind.toByte payload =
      headerBytes id op kind payload.length ++ (payload ++ hexPair Config.em) := by
  simp only [frameBytes, headerBytes, hexPair_sm, List.append_assoc]

/-- A good header leaves the two bytes at the declared length to decide: too few bytes, the end marker, or another
pair. -/
theorem parseFrame_headerBytes {l : Nat} (hl : l ≤ 65535) (rest : Bytes) :
    parseFrame (headerBytes id op kind l ++ rest) =
      if rest.length < l + 2 then .error (.truncation 14)
      else if (rest.drop l).take 2 = [0x31#8, 0x36#8] then .ok ⟨id, op, kind, BitVec.ofNat 16 l, rest.take l⟩
      else .error (.framing (14 + l)) := by
  have parsed : parseFrame (headerBytes id op kind l ++ rest) = _ := parseFrame_header id op kind l rest
  rw [BitVec.toNat_ofNat, Nat.mod_eq_of_lt (by omega), bodyField_header _ rest l rfl] at parsed
  by_cases hlen : rest.length < l + 2
  · rw [parsed, if_pos hlen, if_pos hlen]
  · have marker : hexByte (byteAt rest l) (byteAt rest (l + 1)) = some Config.em ↔
        (rest.drop l).take 2 = [0x31#8, 0x36#8] := by
      rw [← hexPair_em]
      exact pairAt_eq_some_iff (by omega)
    rw [parsed, if_neg hlen, if_neg hlen]
    by_cases hm : (rest.drop l).take 2 = [0x31#8, 0x36#8]
    · rw [if_pos (marker.mpr hm), if_pos hm]
    · rw [if_neg (mt marker.mp hm), if_neg hm]

/-- A frame followed by anything parses to the frame's message (R145). -/
theorem parseFrame_frameBytes_append {payload : Bytes} (hl : payload.length ≤ 65535) (trailing : Bytes) :
    parseFrame (frameBytes id op.toByte kind.toByte payload ++ trailing) =
      .ok ⟨id, op, kind, BitVec.ofNat 16 payload.length, payload⟩ := by
  rw [frameBytes_eq_header, List.append_assoc, parseFrame_headerBytes id op kind hl, hexPair_em, List.append_assoc,
    if_neg (by simp), if_pos (by rw [List.drop_left]; rfl), List.take_left]

end

/-- Bytes below the reserved ranges are the ordinals of an op code and a data kind (R115, R116). -/
theorem exists_ordinals {op kind : Byte} (hop : op.toNat ≤ 7) (hkind : kind.toNat ≤ 6) :
    ∃ (o : OpCode) (k : DataKind), op = o.toByte ∧ kind = k.toByte := by
  obtain ⟨⟨o, k⟩, h⟩ := Option.isSome_iff_exists.mp (checkedOrdinals_isSome_iff.mpr ⟨hop, hkind⟩)
  exact ⟨o, k, checkedOrdinals_eq_some.mp h⟩

/-- Settles O4: ENC packs the message's frame, and the parser reads that message back whatever follows the frame. -/
theorem encThenDecRoundTrip : Obligations.EncThenDecRoundTrip := by
  intro id op kind payload s hs hop hkind hlen
  have pack : packFrame id op kind payload = .ok (frameBytes id op kind payload) := by
    rw [packFrame_eq, if_neg (by omega), if_neg (by omega), if_neg (by omega)]
  refine ⟨_, exec_enc_ok hs pack, fun trailing => ?dec⟩
  case dec =>
    obtain ⟨o, k, rfl, rfl⟩ := exists_ordinals hop hkind
    have len : (BitVec.ofNat 16 payload.length).toNat = payload.length := by
      rw [BitVec.toNat_ofNat, Nat.mod_eq_of_lt (by omega)]
    rw [exec_dec_ok hs (parseFrame_frameBytes_append id o k hlen trailing), len, frameBytes_length]
    rfl

/-- Settles O8: the parser's answer after a good header, where the declared offset holds another pair and where it lies
past the buffer's end. -/
theorem decEndMarkerOnlyAtTheDeclaredOffset : Obligations.DecEndMarkerOnlyAtTheDeclaredOffset := by
  intro id op kind l rest s hs hl buf
  have parsed : parseFrame buf = _ := parseFrame_headerBytes id op kind hl rest
  refine ⟨fun hlen hmarker => ?framing, fun hlen => ?truncation⟩
  case framing =>
    rw [if_neg (by omega), if_neg hmarker] at parsed
    exact exec_dec_error hs parsed
  case truncation =>
    rw [if_pos hlen] at parsed
    exact exec_dec_error hs parsed

end Sys2Proof.Machine
end

section
/-! DEC's parser stage by stage: the first failure of the priority list that holds (60_exceptions.md R312), or the field
read (40_codec.md R150). -/

namespace Sys2Proof.Machine

/-- The stages of the parser in sequence, the first failing one ending it. -/
theorem parseFrame_eq_bind (buf : Bytes) :
    parseFrame buf = (do
      startMarker buf
      let id ← idField buf
      let op ← opField buf
      let kind ← kindField buf
      let len ← lenField buf
      let payload ← bodyField buf len.toNat
      return ⟨id, op, kind, len, payload⟩) := by
  unfold parseFrame
  cases startMarker buf with
  | error => rfl
  | ok =>
    cases idField buf with
    | error => rfl
    | ok =>
      cases opField buf with
      | error => rfl
      | ok =>
        cases kindField buf with
        | error => rfl
        | ok =>
          cases lenField buf with
          | error => rfl
          | ok len =>
            dsimp only
            change _ = (bodyField buf len.toNat >>= fun payload => pure _)
            cases bodyField buf len.toNat <;> rfl

/-- The enumeration check of a hex-pair field at offset `k` (30_encoding.md R115, R116). -/
def ordinalCheck {α : Type} (ofByte : Byte → Option α) (k : Nat) (v : Byte) : Except CodecError α :=
  match ofByte v with
  | some a => .ok a
  | none => .error (.enumeration k)

/-- The op code's hex pair, then its enumeration check. -/
theorem opField_eq_bind (buf : Bytes) : opField buf = pairField buf 6 >>= ordinalCheck OpCode.ofByte 6 := by
  unfold opField
  cases pairField buf 6 with
  | error => rfl
  | ok v =>
    change _ = ordinalCheck OpCode.ofByte 6 v
    dsimp only [ordinalCheck]
    cases OpCode.ofByte v <;> rfl

/-- The data kind's hex pair, then its enumeration check. -/
theorem kindField_eq_bind (buf : Bytes) : kindField buf = pairField buf 8 >>= ordinalCheck DataKind.ofByte 8 := by
  unfold kindField
  cases pairField buf 8 with
  | error => rfl
  | ok v =>
    change _ = ordinalCheck DataKind.ofByte 8 v
    dsimp only [ordinalCheck]
    cases DataKind.ofByte v <;> rfl

/-- The length's two hex pairs in sequence. -/
theorem lenField_eq_bind (buf : Bytes) :
    lenField buf = (do
      let lo ← pairField buf 10
      let hi ← pairField buf 12
      return lenOf lo hi) := by
  unfold lenField
  cases pairField buf 10 with
  | error => rfl
  | ok => cases pairField buf 12 <;> rfl

/-- A list of failures in priority order describes a stage's answer: it is an error exactly where an entry holds,
and then the first such entry names its code and offset; otherwise the answer satisfies `P`. -/
def Reports {α : Type} (fs : List (Bool × Status × Nat)) (P : α → Prop) : Except CodecError α → Prop
  | .error e => firstFailure fs = some (errorStatus e, errorOffset e)
  | .ok a => firstFailure fs = none ∧ P a

/-- The first failure of two lists one after the other. -/
theorem firstFailure_append (fs gs : List (Bool × Status × Nat)) :
    firstFailure (fs ++ gs) = (firstFailure fs).or (firstFailure gs) := by
  induction fs with
  | nil => rfl
  | cons f fs ih =>
    obtain ⟨b, e, k⟩ := f
    cases b with
    | true => rfl
    | false => exact ih

/-- A list without a failure that holds has no entry that holds. -/
theorem eq_false_of_firstFailure_eq_none {fs : List (Bool × Status × Nat)} (h : firstFailure fs = none)
    {b : Bool} {e : Status} {k : Nat} (hm : (b, e, k) ∈ fs) : b = false := by
  induction fs with
  | nil => cases hm
  | cons f fs ih =>
    obtain ⟨b', e', k'⟩ := f
    cases b' with
    | true => cases h
    | false =>
      cases hm with
      | head => rfl
      | tail _ hm => exact ih h hm

section
variable {α β : Type} {fs gs : List (Bool × Status × Nat)} {P : α → Prop} {Q : β → Prop}

/-- A stage that cannot fail any more has no entries. -/
theorem Reports.ok {a : α} (h : P a) : Reports [] P (.ok a) := ⟨rfl, h⟩

/-- A check is an entry of the list, before the entries of what follows it. -/
theorem Reports.check {c : Prop} [Decidable c] (e : CodecError) {r : Except CodecError α}
    (h : ¬ c → Reports fs P r) :
    Reports ((decide c, errorStatus e, errorOffset e) :: fs) P (if c then .error e else r) := by
  by_cases hc : c
  · rw [if_pos hc, decide_eq_true hc]
    rfl
  · rw [if_neg hc, decide_eq_false hc]
    cases r with
    | error e' => exact h hc
    | ok a => exact h hc

/-- A stage after another has its entries after the other's. -/
theorem Reports.bind {r : Except CodecError α} {f : α → Except CodecError β} (hr : Reports fs P r)
    (hf : ∀ a, P a → Reports gs Q (f a)) : Reports (fs ++ gs) Q (r >>= f) := by
  cases r with
  | error e =>
    have first : firstFailure fs = some (errorStatus e, errorOffset e) := hr
    show firstFailure (fs ++ gs) = some (errorStatus e, errorOffset e)
    rw [firstFailure_append, first]
    rfl
  | ok a =>
    obtain ⟨hnone, ha⟩ := hr
    have next := hf a ha
    show Reports (fs ++ gs) Q (f a)
    unfold Reports at next ⊢
    rw [firstFailure_append, hnone, Option.none_or]
    exact next

end

section
variable (buf : Bytes)

/-- Stage 1: the start marker. -/
theorem startMarker_reports :
    Reports [(decide (1 ≤ buf.length ∧ byteAt buf 0 ≠ 0x31#8 ∨ 2 ≤ buf.length ∧ byteAt buf 1 ≠ 0x30#8), .errFraming, 0),
      (decide (buf.length < 2), .errTruncation, 0)] (fun _ => True) (startMarker buf) := by
  rw [startMarker_eq]
  exact .check (.framing 0) fun _ => .check (.truncation 0) fun _ => .ok trivial

/-- Stage 2: the node_id. -/
theorem idField_reports :
    Reports [(decide (buf.length < 6), .errTruncation, 2)]
      (· = ⟨byteAt buf 2, byteAt buf 3, byteAt buf 4, byteAt buf 5⟩) (idField buf) := by
  rw [idField_eq]
  exact .check (.truncation 2) fun _ => .ok rfl

/-- A hex-pair field: the bytes are there, and they are digits. -/
theorem pairField_reports (k : Nat) :
    Reports [(decide (buf.length < k + 2), .errTruncation, k), (decide (pairAt buf k = none), .errHex, k)]
      (pairAt buf k = some ·) (pairField buf k) := by
  rw [pairField_eq]
  refine .check (.truncation k) fun _ => ?_
  cases pairAt buf k with
  | none => rfl
  | some v => exact ⟨rfl, rfl⟩

/-- The enumeration check of a pair whose values in range reach to `top`. -/
theorem ordinalCheck_reports {α : Type} {ofByte : Byte → Option α} {toByte : α → Byte} {top k : Nat} {v : Byte}
    (hsome : (ofByte v).isSome = decide (v.toNat ≤ top)) (hto : ∀ a, ofByte v = some a → toByte a = v)
    (hv : pairAt buf k = some v) :
    Reports [(decide (∃ v ∈ pairAt buf k, top < v.toNat), .errEnum, k)] (fun a => toByte a = (pairAt buf k).getD 0#8)
      (ordinalCheck ofByte k v) := by
  have entry : (∃ w ∈ some v, top < w.toNat) ↔ top < v.toNat := by simp
  simp only [hv, entry, ordinalCheck]
  cases h : ofByte v with
  | none =>
    have reserved : top < v.toNat := by simpa [h] using hsome
    rw [decide_eq_true reserved]
    rfl
  | some a =>
    have inRange : ¬ top < v.toNat := by simpa [h] using hsome
    rw [decide_eq_false inRange]
    exact ⟨rfl, hto a h⟩

/-- Stage 3: the op code. -/
theorem opField_reports :
    Reports [(decide (buf.length < 8), .errTruncation, 6), (decide (pairAt buf 6 = none), .errHex, 6),
      (decide (∃ v ∈ pairAt buf 6, 7 < v.toNat), .errEnum, 6)]
      (fun op => op.toByte = (pairAt buf 6).getD 0#8) (opField buf) := by
  rw [opField_eq_bind]
  exact (pairField_reports buf 6).bind fun v hv =>
    ordinalCheck_reports buf (OpCode.ofByte_isSome v) (fun _ => OpCode.toByte_of_ofByte) hv

/-- Stage 4: the data kind. -/
theorem kindField_reports :
    Reports [(decide (buf.length < 10), .errTruncation, 8), (decide (pairAt buf 8 = none), .errHex, 8),
      (decide (∃ v ∈ pairAt buf 8, 6 < v.toNat), .errEnum, 8)]
      (fun kind => kind.toByte = (pairAt buf 8).getD 0#8) (kindField buf) := by
  rw [kindField_eq_bind]
  exact (pairField_reports buf 8).bind fun v hv =>
    ordinalCheck_reports buf (DataKind.ofByte_isSome v) (fun _ => DataKind.toByte_of_ofByte) hv

/-- Stage 5: the payload length. -/
theorem lenField_reports :
    Reports [(decide (buf.length < 12), .errTruncation, 10), (decide (pairAt buf 10 = none), .errHex, 10),
      (decide (buf.length < 14), .errTruncation, 12), (decide (pairAt buf 12 = none), .errHex, 12)]
      (fun len => len.toNat = declaredLen buf) (lenField buf) := by
  rw [lenField_eq_bind]
  refine (pairField_reports buf 10).bind fun lo hlo => ?_
  refine (pairField_reports buf 12).bind (gs := []) fun hi hhi => .ok ?_
  rw [declaredLen, hlo, hhi]
  exact lenOf_toNat lo hi

/-- Stage 6: the payload and the end marker, at the declared length. -/
theorem bodyField_reports (l : Nat) :
    Reports [(decide (buf.length < 16 + l), .errTruncation, 14),
      (decide (pairAt buf (14 + l) ≠ some 0x16#8), .errFraming, 14 + l)]
      (· = (buf.drop 14).take l) (bodyField buf l) := by
  rw [bodyField_eq]
  refine .check (.truncation 14) fun _ => ?_
  rw [← ite_not]
  exact .check (.framing (14 + l)) fun _ => .ok rfl

/-- The message DEC reads from the fields at their offsets, where every check passes (R150). -/
def decMessage : Message where
  id := ⟨byteAt buf 2, byteAt buf 3, byteAt buf 4, byteAt buf 5⟩
  op := (pairAt buf 6).getD 0#8
  kind := (pairAt buf 8).getD 0#8
  len := BitVec.ofNat 16 (declaredLen buf)
  payload := (buf.drop 14).take (declaredLen buf)

/-- The parser's checks are the priority list, and what it reads stands at the fields' offsets. -/
theorem parseFrame_reports :
    Reports (decFailures buf) (fun p => messageOf p = decMessage buf ∧ p.len.toNat = declaredLen buf)
      (parseFrame buf) := by
  rw [parseFrame_eq_bind]
  refine (startMarker_reports buf).bind fun _ _ => ?_
  refine (idField_reports buf).bind fun id hid => ?_
  refine (opField_reports buf).bind fun op hop => ?_
  refine (kindField_reports buf).bind fun kind hkind => ?_
  refine (lenField_reports buf).bind fun len hlen => ?_
  rw [hlen]
  refine (bodyField_reports buf (declaredLen buf)).bind (gs := []) fun payload hpayload => .ok ⟨?_, hlen⟩
  have hlen16 : len = BitVec.ofNat 16 (declaredLen buf) := by rw [← hlen, BitVec.ofNat_toNat, BitVec.setWidth_eq]
  rw [messageOf, decMessage, hid, hop, hkind, hlen16, hpayload]

end

/-- Settles O6: the parser's answer is the first failure of the list, or the message at the fields' offsets. -/
theorem decReportsTheFirstFailure : Obligations.DecReportsTheFirstFailure := by
  intro buf s hs
  refine ⟨rfl, ?_⟩
  have reports := parseFrame_reports buf
  cases hp : parseFrame buf with
  | error e =>
    rw [hp] at reports
    have first : firstFailure (decFailures buf) = some (errorStatus e, errorOffset e) := reports
    rw [exec_dec_error hs hp, first]
    rfl
  | ok p =>
    rw [hp] at reports
    obtain ⟨hnone, message, len⟩ := reports
    rw [exec_dec_ok hs hp, hnone, message, len]
    rfl

/-- A buffer that parses holds the whole frame of the length it declares. -/
theorem parseFrame_ok_length {buf : Bytes} {p : ParsedFrame} (h : parseFrame buf = .ok p) :
    16 + p.len.toNat ≤ buf.length := by
  have reports := parseFrame_reports buf
  rw [h] at reports
  obtain ⟨hnone, -, len⟩ := reports
  have reached := eq_false_of_firstFailure_eq_none hnone (b := decide (buf.length < 16 + declaredLen buf))
    (e := .errTruncation) (k := 14) (by simp [decFailures])
  rw [len]
  exact Nat.not_lt.mp (of_decide_eq_false reached)

end Sys2Proof.Machine
end

section
/-! DEC on a longer buffer: an answer that is not a truncation stays as it is, whatever bytes follow (40_codec.md R153,
R154). -/

namespace Sys2Proof.Machine

/-- What a stage answers on a buffer (`r`) and on that buffer with bytes after it (`r'`): the same, unless the shorter
buffer truncates a field. -/
def Persists {α : Type} (r r' : Except CodecError α) : Prop := (∃ k, r = .error (.truncation k)) ∨ r' = r

/-- Answers of stages in sequence persist where each stage's do. -/
theorem Persists.bind {α β : Type} {r r' : Except CodecError α} {f f' : α → Except CodecError β} (hr : Persists r r')
    (hf : ∀ a, Persists (f a) (f' a)) : Persists (r >>= f) (r' >>= f') := by
  rcases hr with ⟨k, rfl⟩ | rfl
  · exact .inl ⟨k, rfl⟩
  · cases r' with
    | error e => exact .inr rfl
    | ok a => exact hf a

section
variable (buf rest : Bytes)

/-- A byte inside a buffer stays where it is. -/
theorem byteAt_append {buf : Bytes} {k : Nat} (h : k < buf.length) : byteAt (buf ++ rest) k = byteAt buf k :=
  List.getD_append _ _ _ _ h

/-- A pair inside a buffer stays where it is. -/
theorem pairAt_append {buf : Bytes} {k : Nat} (h : k + 2 ≤ buf.length) : pairAt (buf ++ rest) k = pairAt buf k := by
  rw [pairAt, pairAt, byteAt_append rest (by omega), byteAt_append rest (by omega)]

/-- A first byte that differs decides the start marker, and so do two bytes. -/
theorem startMarker_persists : Persists (startMarker buf) (startMarker (buf ++ rest)) := by
  match buf with
  | [] => exact .inl ⟨0, rfl⟩
  | [a] =>
    by_cases ha : a = 0x31#8
    · subst ha
      exact .inl ⟨0, rfl⟩
    · have mismatch : ∀ tail, startMarker (a :: tail) = .error (.framing 0) := fun tail => by
        rw [startMarker_eq, if_pos (.inl ⟨by simp, ha⟩)]
      exact .inr ((mismatch rest).trans (mismatch []).symm)
  | a :: b :: tail => exact .inr rfl

theorem idField_persists : Persists (idField buf) (idField (buf ++ rest)) := by
  rw [idField_eq, idField_eq]
  by_cases h : buf.length < 6
  · exact .inl ⟨2, if_pos h⟩
  · right
    rw [if_neg (by rw [List.length_append]; omega), if_neg h, byteAt_append rest (by omega),
      byteAt_append rest (by omega), byteAt_append rest (by omega), byteAt_append rest (by omega)]

theorem pairField_persists (k : Nat) : Persists (pairField buf k) (pairField (buf ++ rest) k) := by
  rw [pairField_eq, pairField_eq]
  by_cases h : buf.length < k + 2
  · exact .inl ⟨k, if_pos h⟩
  · right
    rw [if_neg (by rw [List.length_append]; omega), if_neg h, pairAt_append rest (by omega)]

theorem bodyField_persists (l : Nat) : Persists (bodyField buf l) (bodyField (buf ++ rest) l) := by
  rw [bodyField_eq, bodyField_eq]
  by_cases h : buf.length < 16 + l
  · exact .inl ⟨14, if_pos h⟩
  · right
    rw [if_neg (by rw [List.length_append]; omega), if_neg h, pairAt_append rest (by omega),
      List.drop_append_of_le_length (by omega), List.take_append_of_le_length (by rw [List.length_drop]; omega)]

/-- Every stage's answer persists, so the parser's does. -/
theorem parseFrame_persists : Persists (parseFrame buf) (parseFrame (buf ++ rest)) := by
  rw [parseFrame_eq_bind, parseFrame_eq_bind, opField_eq_bind, opField_eq_bind, kindField_eq_bind, kindField_eq_bind,
    lenField_eq_bind, lenField_eq_bind]
  refine (startMarker_persists buf rest).bind fun _ => ?_
  refine (idField_persists buf rest).bind fun _ => ?_
  refine ((pairField_persists buf rest 6).bind fun _ => .inr rfl).bind fun _ => ?_
  refine ((pairField_persists buf rest 8).bind fun _ => .inr rfl).bind fun _ => ?_
  refine ((pairField_persists buf rest 10).bind fun _ => (pairField_persists buf rest 12).bind fun _ => .inr rfl).bind
    fun len => ?_
  exact (bodyField_persists buf rest len.toNat).bind fun _ => .inr rfl

end

/-- Bytes after a buffer that parses change nothing. -/
theorem parseFrame_append_of_ok {buf : Bytes} {p : ParsedFrame} (h : parseFrame buf = .ok p) (rest : Bytes) :
    parseFrame (buf ++ rest) = .ok p := by
  rcases parseFrame_persists buf rest with ⟨k, htrunc⟩ | hsame
  · rw [h] at htrunc
    cases htrunc
  · rw [hsame, h]

/-- A buffer that parses truncates wherever it is cut inside its frame: any other answer would be the whole buffer's, a
frame longer than the cut. -/
theorem parseFrame_take_of_ok {buf : Bytes} {p : ParsedFrame} {k : Nat} (h : parseFrame buf = .ok p)
    (hk : k < 16 + p.len.toNat) : ∃ offset, parseFrame (buf.take k) = .error (.truncation offset) := by
  rcases parseFrame_persists (buf.take k) (buf.drop k) with htrunc | hsame
  · exact htrunc
  · rw [List.take_append_drop, h] at hsame
    have fits := parseFrame_ok_length hsame.symm
    have cut : (buf.take k).length ≤ k := List.length_take_le k buf
    omega

/-- STATUS is never OK on a decode failure. -/
theorem errorStatus_ne_ok (e : CodecError) : errorStatus e ≠ .ok := by cases e <;> nofun

/-- DEC that answers STATUS OK has parsed its buffer, in a session. -/
theorem parseFrame_ok_of_exec_dec {buf : Bytes} {s t : State} (h : exec (.dec buf) s = .next t)
    (hok : t.out.status = .ok) : s.started = true ∧ ∃ p, parseFrame buf = .ok p := by
  obtain ⟨hs, -⟩ := inSession_next.mp h
  cases hp : parseFrame buf with
  | error e =>
    rw [exec_dec_error hs hp] at h
    cases h
    exact absurd hok (errorStatus_ne_ok e)
  | ok p => exact ⟨hs, p, rfl⟩

/-- Settles O9: the parser's answer on the longer buffer is the one on the frame. -/
theorem decIgnoresTrailingBytes : Obligations.DecIgnoresTrailingBytes := by
  intro f trailing s t h hok _
  obtain ⟨hs, p, hp⟩ := parseFrame_ok_of_exec_dec h hok
  rw [exec_dec_ok hs (parseFrame_append_of_ok hp trailing), ← exec_dec_ok hs hp, h]

/-- Settles O10: ENC's frame parses, and it is as long as its parsed length says, so cutting it anywhere truncates. -/
theorem decOfAProperPrefixTruncates : Obligations.DecOfAProperPrefixTruncates := by
  intro id op kind payload f k s t h hf hk
  obtain ⟨hs, -⟩ := inSession_next.mp h
  rw [exec_enc_frame h, packFrame_toOption_eq_some] at hf
  obtain ⟨hop, hkind, hlen, rfl⟩ := hf
  obtain ⟨o, d, rfl, rfl⟩ := exists_ordinals hop hkind
  have parsed := parseFrame_frameBytes_append id o d hlen []
  rw [List.append_nil] at parsed
  rw [frameBytes_length] at hk
  obtain ⟨offset, truncated⟩ := parseFrame_take_of_ok parsed (k := k) (by
    rwa [BitVec.toNat_ofNat, Nat.mod_eq_of_lt (by omega)])
  exact ⟨offset, exec_dec_error hs truncated⟩

end Sys2Proof.Machine
end

section
/-! The start marker: what CHKSTART looks for (40_codec.md R160), and what DEC answers without it (R151). -/

namespace Sys2Proof.Machine

/-- A start marker that fails is the parser's answer. -/
theorem parseFrame_of_startMarker_error {buf : Bytes} {e : CodecError} (h : startMarker buf = .error e) :
    parseFrame buf = .error e := by
  rw [parseFrame_eq_bind, h]
  rfl

/-- DEC of a buffer whose first or second byte is not the start marker's. -/
theorem exec_dec_of_mismatch {buf : Bytes} {s : State} (hs : s.started = true)
    (h : 1 ≤ buf.length ∧ byteAt buf 0 ≠ 0x31#8 ∨ 2 ≤ buf.length ∧ byteAt buf 1 ≠ 0x30#8) :
    exec (.dec buf) s = .next (s.setOut { status := .errFraming, report := some .errFraming, info := some 0 }) :=
  exec_dec_error hs (parseFrame_of_startMarker_error (by rw [startMarker_eq, if_pos h]))

/-- Settles O7: a first byte that differs, a second byte that differs, and a buffer too short to hold the marker. -/
theorem decStartMarkerMismatch : Obligations.DecStartMarkerMismatch := by
  intro s hs
  refine ⟨fun a rest ha => ?first, fun b rest hb => ?second, fun buf hbuf => ?short⟩
  case first => exact exec_dec_of_mismatch hs (.inl ⟨by simp, ha⟩)
  case second => exact exec_dec_of_mismatch hs (.inr ⟨by simp, hb⟩)
  case short =>
    have truncated : parseFrame buf = .error (.truncation 0) := by rcases hbuf with rfl | rfl <;> rfl
    exact exec_dec_error hs truncated

/-- A buffer begins with the start marker exactly where it has two bytes that decode to the sentinel. -/
theorem take_two_eq_marker_iff (buf : Bytes) :
    buf.take 2 = [0x31#8, 0x30#8] ↔ 2 ≤ buf.length ∧ pairAt buf 0 = some Config.sm := by
  by_cases h : 2 ≤ buf.length
  · simp only [h, true_and]
    rw [pairAt_eq_some_iff h, hexPair_sm, List.drop_zero]
  · have short : buf.take 2 ≠ [0x31#8, 0x30#8] := fun heq => by
      have : (buf.take 2).length = 2 := by rw [heq]; rfl
      rw [List.length_take] at this
      omega
    simp only [h, short, false_and]

/-- CHKSTART's bit is the marker's presence (R160). -/
theorem startPresent_eq (buf : Bytes) : startPresent buf = decide (buf.take 2 = [0x31#8, 0x30#8]) := by
  simp only [take_two_eq_marker_iff]
  match buf with
  | [] => rfl
  | [a] => rfl
  | a :: b :: rest =>
    change (hexByte a b == some Config.sm) = decide (2 ≤ rest.length + 2 ∧ hexByte a b = some Config.sm)
    simp [beq_eq_decide]

/-- Settles O11: PRESENT and the decoding of the first two bytes are the marker's presence, and two bytes without it are
the mismatch DEC reports. -/
theorem chkstartResult : Obligations.ChkstartResult := by
  intro buf s hs
  refine ⟨rfl, ?present, take_two_eq_marker_iff buf, fun hlen hmarker => ?mismatch⟩
  case present =>
    rw [← startPresent_eq]
    exact inSession_of_started hs _
  case mismatch =>
    refine exec_dec_of_mismatch hs ?_
    have bytes : buf.take 2 = [byteAt buf 0, byteAt buf 1] := take_two_drop hlen
    by_cases h0 : byteAt buf 0 = 0x31#8
    · exact .inr ⟨hlen, fun h1 => hmarker (by rw [bytes, h0, h1])⟩
    · exact .inl ⟨by omega, h0⟩

end Sys2Proof.Machine
end

section
/-! What a message and a tick do, in closed form (41_session_fsm.md R200 to R213): the layer the results of the frame rows,
of UPD, of RX and of TICK start from. -/

namespace Sys2Proof.Machine

/-- The answer a draw takes, by the name claims use. -/
theorem drawnAnswer_eq_drawResult (r : Request) (s : State) : drawnAnswer r s = drawResult r s := by
  unfold drawnAnswer drawResult
  cases s.answer <;> rfl

/-- The emission as one write of the output ports (R212). -/
theorem emit_eq_ite (op : OpCode) (kind : DataKind) (p : Bytes) (s : State) :
    emit op kind p s = s.setOut
      { s.out with
        report := if 65535 < p.length then some .errOverflow else s.out.report
        tx := if 65535 < p.length then none else some (frameBytes s.cfgNodeId op.toByte kind.toByte p) } := by
  rcases emit_cases op kind p s with ⟨hlen, h⟩ | ⟨hlen, h⟩ <;> rw [h]
  · have fits : ¬ 65535 < p.length := Nat.not_lt.mpr hlen
    rw [if_neg fits, if_neg fits]
  · have long : 65535 < p.length := hlen
    rw [if_pos long, if_pos long]

/-- A command that draws, enters a mode and emits the answer: an accepted COMMAND (R206), and TICK's report (R213). -/
theorem emit_drawnAnswer (op : OpCode) (kind : DataKind) (r : Request) (m : Mode) (s : State) :
    emit op kind (drawnAnswer r s) ((afterDraw r (complete s)).setMode m) =
      { s with
        mode := m
        answer := none
        drawCount := s.drawCount + 1
        out :=
          { status := .ok
            request := some r
            report := if 65535 < (drawResult r s).length then some .errOverflow else none
            tx := if 65535 < (drawResult r s).length then none
              else some (frameBytes s.cfgNodeId op.toByte kind.toByte (drawResult r s)) } } := by
  rw [emit_eq_ite, drawnAnswer_eq_drawResult]
  rfl

/-- An answer supplied with the command is the draw's result. -/
theorem drawResult_supplied {r : Request} {s : State} {a : Bytes} (h : s.answer = some a) : drawResult r s = a := by
  rw [← drawnAnswer_eq_drawResult, drawnAnswer_supplied h]

/-- An announcement is a frame without payload on TX (R204). -/
theorem announce_eq (s : State) :
    announce s = s.setOut { s.out with tx := some (frameBytes s.cfgNodeId 0x01#8 s.cfgAnnounceKind.toByte []) } := rfl

/-! ## Delivery -/

section
variable {id : NodeId} {op : OpCode} {kind : DataKind} {payload : Bytes}

theorem delivers_frameInstr : delivers (frameInstr op id kind payload) id op kind payload := .inl rfl

theorem delivers_upd {l : BitVec 16} :
    delivers (.upd ⟨id, op.toByte, kind.toByte, l, payload⟩) id op kind payload :=
  .inr (.inl ⟨_, rfl, rfl, rfl, rfl, rfl⟩)

/-- RX of a frame, whatever follows it, brings the frame's message. -/
theorem delivers_rx_frame (hl : payload.length ≤ 65535) (trailing : Bytes) :
    delivers (.rx (frameBytes id op.toByte kind.toByte payload ++ trailing)) id op kind payload :=
  .inr (.inr ⟨_, _, rfl, parseFrame_frameBytes_append id op kind hl trailing⟩)

/-- In a session a message completes: rejected at the identity gate, or dispatched on its op code. -/
theorem exec_delivered {i : Instr} {s : State} (hs : s.started = true) (h : delivers i id op kind payload) :
    exec i s = .next (if id ≠ s.cfgGwId then raise .rejIdentity none s else dispatchOp op kind payload s) := by
  rw [exec_of_delivers h, inSession_of_started hs, update, identityGate, ite_not]

end

/-- In a session TICK completes. -/
theorem exec_tick {s : State} (hs : s.started = true) : exec .tick s = .next (tickArm s) := inSession_of_started hs _

end Sys2Proof.Machine
end

section
/-! The eight frame rows (41_session_fsm.md R203 to R210): each op code's arm as the rule's if-chain, behind the identity
gate. -/

namespace Sys2Proof.Machine

section
variable (kind : DataKind) (payload : Bytes) (s : State)

theorem onGatewayInit_eq :
    onGatewayInit s = if s.mode = .initializing then complete s.confirmGateway else raise .rejOpmode none s := by
  unfold onGatewayInit
  cases s.mode <;> rfl

theorem onInitSuccess_eq :
    onInitSuccess s = if s.mode = .broadcasting then complete (s.setMode .active) else raise .rejOpmode none s := by
  unfold onInitSuccess
  cases s.mode <;> rfl

theorem onCommand_eq :
    onCommand kind payload s =
      if s.mode ≠ .active ∧ s.mode ≠ .actuating then raise .rejOpmode none s
      else if s.cfgRole ≠ .actuatorNode then raise .rejRole none s
      else applyCommand kind payload s := by
  unfold onCommand
  cases s.mode <;> cases s.cfgRole <;> rfl

theorem onCommand_of_actuatorNode {kind : DataKind} {payload : Bytes} {s : State}
    (hm : s.mode = .active ∨ s.mode = .actuating) (hr : s.cfgRole = .actuatorNode) :
    onCommand kind payload s = applyCommand kind payload s := by
  rw [onCommand_eq, if_neg (by tauto), if_neg (not_not.mpr hr)]

theorem onCommand_of_sensorNode {kind : DataKind} {payload : Bytes} {s : State}
    (hm : s.mode = .active ∨ s.mode = .actuating) (hr : s.cfgRole = .sensorNode) :
    onCommand kind payload s = raise .rejRole none s := by
  rw [onCommand_eq, if_neg (by tauto), if_pos (by simp [hr])]

theorem onSensorDataReq_eq :
    onSensorDataReq kind s =
      if s.mode ≠ .active then raise .rejOpmode none s
      else if s.cfgRole ≠ .sensorNode then raise .rejRole none s
      else complete ((s.setMode .sensorReporting).setPendKind kind) := by
  unfold onSensorDataReq
  cases s.mode <;> cases s.cfgRole <;> rfl

theorem onAck_eq : onAck s = if s.mode = .active then complete s else raise .rejOpmode none s := by
  unfold onAck
  cases s.mode <;> rfl

end

/-- Settles O18: GATEWAY_INIT's arm behind the gate. -/
theorem gatewayInitResult : Obligations.GatewayInitResult := by
  intro id kind payload s hs
  have row : exec (.gatewayInit id kind payload) s = _ := exec_delivered hs (delivers_frameInstr (op := .gatewayInit))
  refine ⟨rfl, ?_⟩
  rw [row, dispatchOp, onGatewayInit_eq]
  rfl

/-- Settles O20: INIT_SUCCESS's arm behind the gate. -/
theorem initSuccessResult : Obligations.InitSuccessResult := by
  intro id kind payload s hs
  have row : exec (.initSuccess id kind payload) s = _ := exec_delivered hs (delivers_frameInstr (op := .initSuccess))
  refine ⟨rfl, ?_⟩
  rw [row, dispatchOp, onInitSuccess_eq]
  rfl

/-- Settles O21: COMMAND's arm behind the gate, its acknowledgment in closed form for every answer. -/
theorem commandResult : Obligations.CommandResult := by
  intro id kind payload s hs
  have row : exec (.command id kind payload) s = _ := exec_delivered hs (delivers_frameInstr (op := .command))
  refine ⟨rfl, ?_⟩
  rw [row, dispatchOp, onCommand_eq, applyCommand, emit_drawnAnswer]
  rfl

/-- Settles O23: SENSOR_DATA_REQ's arm behind the gate. -/
theorem sensorDataReqResult : Obligations.SensorDataReqResult := by
  intro id kind payload s hs
  have row : exec (.sensorDataReq id kind payload) s = _ := exec_delivered hs (delivers_frameInstr (op := .sensorDataReq))
  refine ⟨rfl, ?_⟩
  rw [row, dispatchOp, onSensorDataReq_eq]
  rfl

/-- Settles O25: ACK's arm behind the gate. -/
theorem ackResult : Obligations.AckResult := by
  intro id kind payload s hs
  have row : exec (.ack id kind payload) s = _ := exec_delivered hs (delivers_frameInstr (op := .ack))
  refine ⟨rfl, ?_⟩
  rw [row, dispatchOp, onAck_eq]
  rfl

end Sys2Proof.Machine
end

section
/-! TICK in every mode (41_session_fsm.md R213), and the frames the block emits (R204, R207, R209). -/

namespace Sys2Proof.Machine

section
variable {s : State}

theorem tickArm_of_initializing (hm : s.mode = .initializing) : tickArm s = tickInitializing s := by rw [tickArm, hm]

theorem tickArm_of_broadcasting (hm : s.mode = .broadcasting) : tickArm s = tickBroadcasting s := by rw [tickArm, hm]

theorem tickArm_of_sensorReporting (hm : s.mode = .sensorReporting) : tickArm s = tickSensorReporting s := by
  rw [tickArm, hm]

/-- ACTIVE and ACTUATING have no timed arm (D37). -/
theorem tickArm_of_idle (hm : s.mode = .active ∨ s.mode = .actuating) : tickArm s = complete s := by
  rcases hm with hm | hm <;> rw [tickArm, hm]

end

/-- Settles O28: the arm of each mode, its emission in closed form. -/
theorem tickResult : Obligations.TickResult := by
  intro s hs
  refine ⟨rfl, ?_⟩
  rw [exec_tick hs]
  refine congrArg _ ?_
  split
  case h_1 hm => exact tickArm_of_initializing hm
  case h_2 hm => exact tickArm_of_broadcasting hm
  case h_3 hm => exact (tickArm_of_sensorReporting hm).trans (emit_drawnAnswer ..)
  case h_4 hm => exact tickArm_of_idle (.inl hm)
  case h_5 hm => exact tickArm_of_idle (.inr hm)

/-- Settles O19: the receipt is the arm behind the gate; the announcement's frame is TICK's in a confirmed INITIALIZING
node, byte for byte. -/
theorem nodeInitResult : Obligations.NodeInitResult := by
  intro id kind payload s hs
  refine ⟨rfl, exec_delivered hs (delivers_frameInstr (op := .nodeInit)), fun hm hg => ⟨_, exec_tick hs, ?_⟩⟩
  rw [tickArm_of_initializing hm, tickInitializing, if_pos hg, announce_eq]
  rfl

/-- A draw that fits a frame is emitted byte for byte (30_encoding.md R100). -/
theorem emit_drawnAnswer_tx (op : OpCode) (kind : DataKind) {r : Request} (m : Mode) {s : State} {a : Bytes}
    (ha : s.answer = some a) (hlen : a.length ≤ 65535) :
    (emit op kind (drawnAnswer r s) ((afterDraw r (complete s)).setMode m)).out.tx =
      some ([0x31#8, 0x30#8] ++ s.cfgNodeId.toBytes ++ hexPair op.toByte ++ hexPair kind.toByte
        ++ hexPair (lenLo a.length) ++ hexPair (lenHi a.length) ++ a ++ [0x31#8, 0x36#8]) := by
  rw [emit_drawnAnswer, drawResult_supplied ha, if_neg (by omega), if_neg (by omega), frameBytes, hexPair_sm, hexPair_em]

/-- Settles O22: the receipt is the arm behind the gate; the acknowledgment is the draw COMMAND emits. -/
theorem commandExecResult : Obligations.CommandExecResult := by
  intro id kind payload s hs
  refine ⟨rfl, exec_delivered hs (delivers_frameInstr (op := .commandExec)), fun r hm hr ha hlen => ?_⟩
  have row : exec (.command s.cfgGwId kind payload) s = _ := exec_delivered hs (delivers_frameInstr (op := .command))
  rw [if_neg (not_not.mpr rfl), dispatchOp, onCommand_of_actuatorNode hm hr] at row
  exact ⟨_, row, emit_drawnAnswer_tx .commandExec kind .actuating ha hlen⟩

/-- Settles O24: the receipt is the arm behind the gate; the report is the draw TICK emits. -/
theorem sensorDataResult : Obligations.SensorDataResult := by
  intro id kind payload s hs
  refine ⟨rfl, exec_delivered hs (delivers_frameInstr (op := .sensorData)), fun v hm ha hlen => ⟨_, exec_tick hs, ?_⟩⟩
  rw [tickArm_of_sensorReporting hm]
  exact emit_drawnAnswer_tx .sensorData s.pendKind .active ha hlen

end Sys2Proof.Machine
end

section
/-! UPD and RX (41_session_fsm.md R200 to R202, R211, R215). -/

namespace Sys2Proof.Machine

/-- Settles O26: each of the three ways brings the block the same message, and the gate rejects it. -/
theorem identityGateRejectsEveryOtherSender : Obligations.IdentityGateRejectsEveryOtherSender := by
  intro op id kind payload trailing l s hs hid hlen
  have rejects {i : Instr} (h : delivers i id op kind payload) : exec i s = .next (raise .rejIdentity none s) := by
    rw [exec_delivered hs h, if_pos hid]
  exact ⟨rejects delivers_upd, rejects (delivers_rx_frame hlen trailing), rejects delivers_frameInstr⟩

/-- Settles O17: both answers of the parser; a decoded message is brought alike by RX and by UPD of MSG. -/
theorem rxIsDecThenUpd : Obligations.RxIsDecThenUpd := by
  intro buf s hs
  refine ⟨rfl, ?_⟩
  cases hp : parseFrame buf with
  | error e =>
    have rx : exec (.rx buf) s = .next (raiseCodec e s) := by
      simp only [exec, execRx, hp, inSession_of_started hs]
    exact ⟨_, exec_dec_error hs hp, fun _ => ⟨rfl, nofun, rx⟩, fun hok => absurd hok (errorStatus_ne_ok e)⟩
  | ok p =>
    have rx : delivers (.rx buf) p.id p.op p.kind p.payload := .inr (.inr ⟨buf, p.len, rfl, hp⟩)
    exact ⟨_, exec_dec_ok hs hp, fun hne => absurd rfl hne,
      fun _ => ⟨messageOf p, _, rfl, exec_delivered hs delivers_upd, exec_delivered hs rx⟩⟩

/-- An op code that MODE does not accept is rejected with REJ_OPMODE (R202). -/
theorem dispatchOp_of_not_accepted {op : OpCode} {s : State} (kind : DataKind) (payload : Bytes)
    (h : (s.mode, op) ∉ acceptedPairs) : dispatchOp op kind payload s = raise .rejOpmode none s := by
  cases op with
  | gatewayInit => rw [dispatchOp, onGatewayInit_eq, if_neg (by simpa [acceptedPairs] using h)]
  | initSuccess => rw [dispatchOp, onInitSuccess_eq, if_neg (by simpa [acceptedPairs] using h)]
  | command => rw [dispatchOp, onCommand_eq, if_pos (by simpa [acceptedPairs] using h)]
  | sensorDataReq => rw [dispatchOp, onSensorDataReq_eq, if_pos (by simpa [acceptedPairs] using h)]
  | ack => rw [dispatchOp, onAck_eq, if_neg (by simpa [acceptedPairs] using h)]
  | nodeInit | commandExec | sensorData => rfl

/-- Settles O14: each row of the matrix against the arm of its op code. -/
theorem updTransitionMatrix : Obligations.UpdTransitionMatrix := by
  intro id op kind payload l s hs r opm role applied
  have command (hm : s.mode = .active ∨ s.mode = .actuating) (hr : s.cfgRole = .actuatorNode) :
      onCommand kind payload s = applied :=
    (onCommand_of_actuatorNode hm hr).trans (emit_drawnAnswer ..)
  rw [exec_delivered hs delivers_upd]
  refine congrArg _ (if_congr Iff.rfl rfl ?_)
  split
  case h_1 hm => exact (onGatewayInit_eq s).trans (if_pos hm)
  case h_2 hm => exact (onInitSuccess_eq s).trans (if_pos hm)
  case h_3 hm hr => exact command (.inl hm) hr
  case h_4 hm hr => exact onCommand_of_sensorNode (.inl hm) hr
  case h_5 hm hr =>
    exact (onSensorDataReq_eq kind s).trans ((if_neg (not_not.mpr hm)).trans (if_neg (not_not.mpr hr)))
  case h_6 hm hr =>
    exact (onSensorDataReq_eq kind s).trans ((if_neg (not_not.mpr hm)).trans (if_pos (by simp [hr])))
  case h_7 hm => exact (onAck_eq s).trans (if_pos hm)
  case h_8 hm hr => exact command (.inr hm) hr
  case h_9 hm hr => exact onCommand_of_sensorNode (.inr hm) hr
  case h_10 =>
    refine dispatchOp_of_not_accepted kind payload ?_
    cases hr : s.cfgRole <;> simp_all [acceptedPairs]

/-- A message is rejected with REJ_OPMODE only where MODE does not accept its op code (R202). -/
theorem UpdateEffect.not_accepted_of_rejOpmode {id : NodeId} {op : OpCode} {kind : DataKind} {payload : Bytes}
    {s t : State} (h : UpdateEffect id op kind payload s t) (ht : t.out.status = .rejOpmode) :
    (s.mode, op) ∉ acceptedPairs := by
  cases h with
  | opmode _ hpair => exact hpair
  | identity | role | confirm | activate | report | ack => cases ht
  | apply =>
    rw [applyCommand, emit_drawnAnswer] at ht
    cases ht

/-- Settles O27: REJ_OPMODE is what a pair outside the six gets, and no other effect of a message has that STATUS. -/
theorem updAcceptsExactlySixPairs : Obligations.UpdAcceptsExactlySixPairs := by
  intro op kind payload l s hs i rejected
  have gate : update s.cfgGwId op kind payload s = dispatchOp op kind payload s := if_pos rfl
  have run : exec i s = .next (dispatchOp op kind payload s) := by
    rw [exec_of_delivers delivers_upd, inSession_of_started hs, gate]
  have rejects (h : (s.mode, op) ∉ acceptedPairs) : dispatchOp op kind payload s = rejected :=
    dispatchOp_of_not_accepted kind payload h
  have only (h : (dispatchOp op kind payload s).out.status = .rejOpmode) : (s.mode, op) ∉ acceptedPairs :=
    (update_effect s.cfgGwId op kind payload s).not_accepted_of_rejOpmode (gate ▸ h)
  rw [run]
  refine ⟨⟨fun h => only (by rw [Host.Outcome.next.inj h]), fun h => congrArg _ (rejects h)⟩, ?_⟩
  intro t ht hstatus
  cases ht
  exact rejects (only hstatus)

end Sys2Proof.Machine
end

section
/-! Emission (41_session_fsm.md R217): which effect of a message and of a tick puts a frame on TX. -/

namespace Sys2Proof.Machine

/-- Of the effects of a message only an accepted COMMAND emits. -/
theorem UpdateEffect.emits {id : NodeId} {op : OpCode} {kind : DataKind} {payload : Bytes} {s t : State}
    (h : UpdateEffect id op kind payload s t) (htx : t.out.tx ≠ none) :
    id = s.cfgGwId ∧ op = .command ∧ (s.mode = .active ∨ s.mode = .actuating) ∧ s.cfgRole = .actuatorNode := by
  cases h with
  | apply hid ho hm hr => exact ⟨hid, ho, hm, hr⟩
  | identity | opmode | role | confirm | activate | report | ack => exact absurd rfl htx

/-- Of the effects of a tick the announcements and the report emit. -/
theorem TickEffect.emits {s t : State} (h : TickEffect s t) (htx : t.out.tx ≠ none) :
    s.mode = .initializing ∧ s.gwConfirmed = true ∨
      s.mode = .broadcasting ∧ s.bcastInterval.toNat ≤ s.bcastCnt.toNat + 1 ∨ s.mode = .sensorReporting := by
  cases h with
  | enter hm hg => exact .inl ⟨hm, hg⟩
  | again hm _ hc => exact .inr (.inl ⟨hm, hc⟩)
  | sample hm => exact .inr (.inr hm)
  | idle | count => exact absurd rfl htx

/-- Settles O42: only a message and a tick have effects that emit. -/
theorem onlyCommandAndTickEmit : Obligations.OnlyCommandAndTickEmit := by
  intro i s t h htx
  cases exec_effect h with
  | reset | packed | parsed | checked | rejected | undecoded => exact absurd rfl htx
  | updated id op kind payload _ _ hi hu =>
    obtain ⟨rfl, rfl, hm, hr⟩ := hu.emits htx
    exact .inr ⟨hm, hr, kind, payload, hi⟩
  | ticked _ _ hi ht => exact .inl ⟨hi, ht.emits htx⟩

end Sys2Proof.Machine
end

section
/-! The broadcast cadence (41_session_fsm.md R214): what holds between two commands of a run that a confirmed node's first
TICK began. -/

namespace Sys2Proof.Machine

/-- A run of two parts. -/
theorem runInstrs_append {is js : List Instr} {s t : State} :
    runInstrs (is ++ js) s = some t ↔ ∃ u, runInstrs is s = some u ∧ runInstrs js u = some t := by
  induction is generalizing s with
  | nil => simp [runInstrs]
  | cons i is ih =>
    simp only [List.cons_append, runInstrs]
    cases exec i s with
    | next u => exact ih
    | fault | refused => simp

/-- A run of one command. -/
theorem runInstrs_singleton {i : Instr} {s t : State} : runInstrs [i] s = some t ↔ exec i s = .next t := by
  simp only [runInstrs]
  cases exec i s <;> simp

/-- A counter modulo `P` either returns to 0 or goes up by one. -/
theorem succ_mod_eq_ite {k P : Nat} (hP : 1 ≤ P) : (k + 1) % P = if P ≤ k % P + 1 then 0 else k % P + 1 := by
  have bound : k % P < P := Nat.mod_lt k hP
  rw [← Nat.mod_add_mod]
  split
  · rw [show k % P + 1 = P by omega, Nat.mod_self]
  · exact Nat.mod_eq_of_lt (by omega)

/-- A node that left INITIALIZING in state `s` and has seen `k` TICKs since. -/
structure OnAir (s : State) (k : Nat) (t : State) : Prop where
  setting : sameSetting s t
  left : t.mode ≠ .initializing
  confirmed : t.gwConfirmed = true
  count : t.mode = .broadcasting → t.bcastCnt.toNat = k % s.bcastInterval.toNat

/-- TX of the `k`-th TICK after the entering one: the announcement on every multiple of the interval, and nothing
otherwise. -/
def AnnouncesOnCadence (s : State) (k : Nat) (t : State) : Prop :=
  t.mode = .broadcasting →
    t.out.tx = if k % s.bcastInterval.toNat = 0 then some (frameBytes s.cfgNodeId 0x01#8 s.cfgAnnounceKind.toByte [])
      else none

theorem sameSetting.trans {s t u : State} (h : sameSetting s t) (h' : sameSetting t u) : sameSetting s u := by
  simp_all [sameSetting, sameConfig]

section
variable {s t u : State} {k : Nat}

/-- Output ports do not count. -/
theorem OnAir.setOut (h : OnAir s k u) (o : Outputs) : OnAir s k (u.setOut o) :=
  ⟨h.setting.trans (sameSetting_setOut u o), h.left, h.confirmed, h.count⟩

/-- A message does not count: it leaves BROADCASTING or changes no counter. -/
theorem UpdateEffect.onAir {id : NodeId} {op : OpCode} {kind : DataKind} {payload : Bytes}
    (e : UpdateEffect id op kind payload u t) (h : OnAir s k u) : OnAir s k t := by
  have setting := h.setting.trans e.keeps_setting
  cases e with
  | identity | opmode | role | ack => exact h.setOut _
  | confirm _ _ hm => exact absurd hm h.left
  | activate | report => exact ⟨setting, nofun, h.confirmed, nofun⟩
  | apply =>
    refine ⟨setting, ?_, ?_, ?_⟩ <;> rw [applyCommand, emit_drawnAnswer]
    exacts [nofun, h.confirmed, nofun]

/-- The TICK that enters BROADCASTING announces. -/
theorem exec_tick_enters (h : exec .tick s = .next t) (hm : s.mode = .initializing) (hg : s.gwConfirmed = true) :
    OnAir s 0 t ∧ AnnouncesOnCadence s 0 t := by
  obtain ⟨-, rfl⟩ := inSession_next.mp h
  have setting := (tickArm_effect s).keeps_setting
  have entered : tickArm s = announce (((complete s).setMode .broadcasting).setBcastCnt 0#16) := by
    rw [tickArm_of_initializing hm, tickInitializing, if_pos hg]
  refine ⟨⟨setting, ?_, ?_, fun _ => ?_⟩, fun _ => ?_⟩ <;> rw [entered, announce_eq]
  · nofun
  · exact hg
  · exact (Nat.zero_mod _).symm
  · exact (if_pos (Nat.zero_mod _)).symm

/-- A later TICK counts, and announces where the count returns to 0. -/
theorem TickEffect.onAir (e : TickEffect u t) (h : OnAir s k u) (hP : 1 ≤ s.bcastInterval.toNat) :
    OnAir s (k + 1) t ∧ AnnouncesOnCadence s (k + 1) t := by
  have setting := h.setting.trans e.keeps_setting
  obtain ⟨⟨⟨hid, -, -, hkind, -⟩, hinterval, -⟩, left, confirmed, count⟩ := h
  have next := succ_mod_eq_ite (k := k) hP
  cases e with
  | idle hm =>
    have quiet : (complete u).mode ≠ .broadcasting := by
      rcases hm with hm | hm | hm
      · simp [hm]
      · simp [hm]
      · simp [hm] at confirmed
    exact ⟨⟨setting, left, confirmed, fun hb => absurd hb quiet⟩, fun hb => absurd hb quiet⟩
  | enter hm => exact absurd hm left
  | again hm _ hc =>
    rw [count hm, hinterval] at hc
    rw [if_pos hc] at next
    refine ⟨⟨setting, by simp [announce, hm], confirmed, fun _ => next.symm⟩, fun _ => ?_⟩
    rw [if_pos next, hid, hkind]
    rfl
  | count hm _ hc =>
    have counted : (u.bcastCnt + 1#16).toNat = u.bcastCnt.toNat + 1 := by bv_omega
    rw [count hm, hinterval] at hc
    rw [if_neg (by omega)] at next
    refine ⟨⟨setting, left, confirmed, fun _ => ?_⟩, fun _ => ?_⟩
    · rw [next, ← count hm]
      exact counted
    · rw [if_neg (by omega)]
      rfl
  | sample =>
    refine ⟨⟨setting, ?_, ?_, ?_⟩, ?_⟩ <;> rw [tickSensorReporting, emit_drawnAnswer]
    exacts [nofun, confirmed, nofun, nofun]

/-- One command of the run, RST apart. -/
theorem OnAir.exec_next {i : Instr} (h : OnAir s k u) (hP : 1 ≤ s.bcastInterval.toNat) (hi : isRst i = false)
    (he : exec i u = .next t) :
    OnAir s (k + [i].count .tick) t ∧ (i = .tick → AnnouncesOnCadence s (k + [i].count .tick) t) := by
  by_cases htick : i = .tick
  · subst htick
    obtain ⟨-, rfl⟩ := inSession_next.mp he
    obtain ⟨counted, announced⟩ := (tickArm_effect u).onAir h hP
    exact ⟨counted, fun _ => announced⟩
  · have uncounted : [i].count .tick = 0 := by simp [htick]
    rw [uncounted]
    refine ⟨?_, fun heq => absurd heq htick⟩
    cases exec_effect he with
    | reset _ _ hrst =>
      subst hrst
      cases hi
    | packed | parsed | checked | rejected | undecoded => exact h.setOut _
    | updated _ _ _ _ _ _ _ hu => exact hu.onAir h
    | ticked _ _ heq => exact absurd heq htick

/-- A run of commands that the entering TICK begins. -/
theorem onAir_of_runInstrs {is : List Instr} (hm : s.mode = .initializing) (hg : s.gwConfirmed = true)
    (hP : 1 ≤ s.bcastInterval.toNat) (hrst : ∀ i ∈ is, isRst i = false) (h : runInstrs (.tick :: is) s = some t) :
    OnAir s (is.count .tick) t ∧
      ((Instr.tick :: is).getLast? = some .tick → AnnouncesOnCadence s (is.count .tick) t) := by
  induction is using List.reverseRecOn generalizing t with
  | nil =>
    obtain ⟨entered, announced⟩ := exec_tick_enters (runInstrs_singleton.mp h) hm hg
    exact ⟨entered, fun _ => announced⟩
  | append_singleton is i ih =>
    rw [← List.cons_append, runInstrs_append] at h
    obtain ⟨u, hu, ht⟩ := h
    obtain ⟨onAir, -⟩ := ih (fun j hj => hrst j (List.mem_append_left _ hj)) hu
    obtain ⟨counted, announced⟩ := onAir.exec_next hP (hrst i (by simp)) (runInstrs_singleton.mp ht)
    rw [List.count_append, ← List.cons_append, List.getLast?_concat]
    exact ⟨counted, fun hlast => announced (Option.some.inj hlast)⟩

end

/-- Settles O47: the state after the run is on air for as many TICKs as the run counts. -/
theorem broadcastCadence : Obligations.BroadcastCadence := by
  intro is s t _ hm hg hP hrst h hb
  obtain ⟨onAir, announces⟩ := onAir_of_runInstrs hm hg hP hrst h
  exact ⟨onAir.count hb, fun hlast => announces hlast hb⟩

end Sys2Proof.Machine
end

section
/-! What a command reads of the state (00_scope.md R15, R30; 10_state.md R45): never the outputs before it, and the number
of draws taken only where the input supplies no answer. -/

namespace Sys2Proof.Machine

/-- The four ways a command meets the block. -/
inductive InstrKind (i : Instr) : Prop where
  | rst (cfg : RstCfg) (h : i = .rst cfg)
  | tick (h : i = .tick)
  | message (id : NodeId) (op : OpCode) (kind : DataKind) (payload : Bytes) (h : delivers i id op kind payload)
  | outputs (o : Outputs) (h : ∀ s, exec i s = inSession s (s.setOut o))

/-- Every command but RST and TICK brings a message, or sets output ports that depend on its operands alone. -/
theorem instrKind (i : Instr) : InstrKind i := by
  cases i with
  | rst cfg => exact .rst cfg rfl
  | tick => exact .tick rfl
  | gatewayInit id kind p => exact .message id .gatewayInit kind p (.inl rfl)
  | nodeInit id kind p => exact .message id .nodeInit kind p (.inl rfl)
  | initSuccess id kind p => exact .message id .initSuccess kind p (.inl rfl)
  | command id kind p => exact .message id .command kind p (.inl rfl)
  | commandExec id kind p => exact .message id .commandExec kind p (.inl rfl)
  | sensorDataReq id kind p => exact .message id .sensorDataReq kind p (.inl rfl)
  | sensorData id kind p => exact .message id .sensorData kind p (.inl rfl)
  | ack id kind p => exact .message id .ack kind p (.inl rfl)
  | chkstart buf => exact .outputs _ fun s => rfl
  | enc id op kind p =>
    cases hp : packFrame id op kind p with
    | ok f => exact .outputs { okOutputs with frame := some f } fun s => by simp only [exec, execEnc, hp]
    | error e => exact .outputs (failedOutputs e none) fun s => by simp only [exec, execEnc, hp, raise]
  | dec buf =>
    cases hp : parseFrame buf with
    | ok p =>
      exact .outputs { okOutputs with msg := some (messageOf p), flen := some (Config.ovh + p.len.toNat) } fun s => by
        simp only [exec, execDec, hp]
    | error e =>
      exact .outputs (failedOutputs (errorStatus e) (some (errorOffset e))) fun s => by
        simp only [exec, execDec, hp, raiseCodec, raise]
  | upd m =>
    cases hm : checkedOrdinals m.op m.kind with
    | none => exact .outputs (failedOutputs .errEnum none) fun s => by simp only [exec, execUpd, hm, raise]
    | some ordinals =>
      obtain ⟨ho, hk⟩ := checkedOrdinals_eq_some.mp hm
      exact .message m.id ordinals.1 ordinals.2 m.payload (.inr (.inl ⟨m, rfl, rfl, ho, hk, rfl⟩))
  | rx buf =>
    cases hp : parseFrame buf with
    | ok p => exact .message p.id p.op p.kind p.payload (.inr (.inr ⟨buf, p.len, rfl, hp⟩))
    | error e =>
      exact .outputs (failedOutputs (errorStatus e) (some (errorOffset e))) fun s => by
        simp only [exec, execRx, hp, raiseCodec, raise]

/-! ## The outputs before the command -/

theorem update_setOut (id : NodeId) (op : OpCode) (kind : DataKind) (payload : Bytes) (s : State) (o : Outputs) :
    update id op kind payload (s.setOut o) = update id op kind payload s := by cases op <;> rfl

theorem tickArm_setOut (s : State) (o : Outputs) : tickArm (s.setOut o) = tickArm s := rfl

/-- Every command sets its own output ports. -/
theorem exec_setOut (i : Instr) (s : State) (o : Outputs) : exec i (s.setOut o) = exec i s := by
  cases instrKind i with
  | rst cfg h => subst h; rfl
  | tick h => subst h; rfl
  | message id op kind payload h => rw [exec_of_delivers h, exec_of_delivers h, update_setOut]; rfl
  | outputs _ h => rw [h, h]; rfl

/-! ## The number of draws taken -/

/-- The same state, with `n` more draws taken before it. -/
def State.countFrom (n : Nat) (s : State) : State := { s with drawCount := n + s.drawCount }

/-- An outcome with its next state changed by `f`. -/
def mapNext (f : State → State) : Host.Outcome State Fault Refusal → Host.Outcome State Fault Refusal
  | .next s => .next (f s)
  | .fault r => .fault r
  | .refused r => .refused r

theorem inSession_countFrom (n : Nat) (s t : State) :
    inSession (s.countFrom n) (t.countFrom n) = mapNext (State.countFrom n) (inSession s t) := by
  rw [inSession, inSession, apply_ite (mapNext _)]
  rfl

section
variable (n : Nat) {s : State} (ha : s.answer.isSome = true)
include ha

theorem drawResult_countFrom (r : Request) : drawResult r (s.countFrom n) = drawResult r s := by
  obtain ⟨a, ha⟩ := Option.isSome_iff_exists.mp ha
  rw [drawResult_supplied ha, drawResult_supplied (s := s.countFrom n) ha]

theorem applyCommand_countFrom (kind : DataKind) (payload : Bytes) :
    applyCommand kind payload (s.countFrom n) = (applyCommand kind payload s).countFrom n := by
  rw [applyCommand, applyCommand, emit_drawnAnswer, emit_drawnAnswer, drawResult_countFrom n ha]
  rfl

theorem tickSensorReporting_countFrom : tickSensorReporting (s.countFrom n) = (tickSensorReporting s).countFrom n := by
  rw [tickSensorReporting, tickSensorReporting, emit_drawnAnswer, emit_drawnAnswer, drawResult_countFrom n ha]
  rfl

theorem dispatchOp_countFrom (op : OpCode) (kind : DataKind) (payload : Bytes) :
    dispatchOp op kind payload (s.countFrom n) = (dispatchOp op kind payload s).countFrom n := by
  cases op with
  | nodeInit | commandExec | sensorData => rfl
  | command =>
    simp only [dispatchOp, onCommand_eq, apply_ite (State.countFrom n), applyCommand_countFrom n ha]
    rfl
  | gatewayInit | initSuccess | sensorDataReq | ack =>
    simp only [dispatchOp, onGatewayInit_eq, onInitSuccess_eq, onSensorDataReq_eq, onAck_eq,
      apply_ite (State.countFrom n)]
    rfl

theorem update_countFrom (id : NodeId) (op : OpCode) (kind : DataKind) (payload : Bytes) :
    update id op kind payload (s.countFrom n) = (update id op kind payload s).countFrom n := by
  rw [update, update, identityGate, identityGate, apply_ite (State.countFrom n), dispatchOp_countFrom n ha]
  rfl

theorem tickArm_countFrom : tickArm (s.countFrom n) = (tickArm s).countFrom n := by
  cases hm : s.mode with
  | initializing =>
    rw [tickArm_of_initializing (s := s.countFrom n) hm, tickArm_of_initializing hm, tickInitializing, tickInitializing,
      apply_ite (State.countFrom n)]
    rfl
  | broadcasting =>
    rw [tickArm_of_broadcasting (s := s.countFrom n) hm, tickArm_of_broadcasting hm, tickBroadcasting, tickBroadcasting,
      apply_ite (State.countFrom n), apply_ite (State.countFrom n)]
    rfl
  | sensorReporting =>
    rw [tickArm_of_sensorReporting (s := s.countFrom n) hm, tickArm_of_sensorReporting hm,
      tickSensorReporting_countFrom n ha]
  | active | actuating =>
    have idle : s.mode = .active ∨ s.mode = .actuating := by simp [hm]
    rw [tickArm_of_idle (s := s.countFrom n) idle, tickArm_of_idle idle]
    rfl

/-- With its answer supplied a command reads no free value: the draws taken before it only shift the count. -/
theorem exec_countFrom (i : Instr) : exec i (s.countFrom n) = mapNext (State.countFrom n) (exec i s) := by
  cases instrKind i with
  | rst cfg h =>
    subst h
    simp only [exec, execRst]
    cases announceKindOf cfg.announceKind <;> rfl
  | tick h =>
    subst h
    rw [exec, exec, execTick, execTick, tickArm_countFrom n ha, inSession_countFrom]
  | message id op kind payload h =>
    rw [exec_of_delivers h, exec_of_delivers h, update_countFrom n ha, inSession_countFrom]
  | outputs o h =>
    rw [h, h, ← inSession_countFrom]
    rfl

end

end Sys2Proof.Machine
end

section
/-! Runs as functions of the registers, the commands and the draws (41_session_fsm.md R216). -/

namespace Sys2Proof.Machine

/-- Two states agree on all that a run reads, answers and draws apart. -/
structure Agree (s t : State) : Prop where
  registers : sameRegisters s t
  started : s.started = t.started
  interval : s.bcastInterval = t.bcastInterval
  pending : s.pending = t.pending

theorem Agree.refl (s : State) : Agree s s := ⟨⟨rfl, rfl, rfl, rfl, rfl, rfl, rfl, rfl, rfl⟩, rfl, rfl, rfl⟩

/-- Two states from which a run is the same: they agree, and on the draws too, which every command carries or which stand
at the same free values. -/
structure SameRun (s t : State) : Prop extends Agree s t where
  draws : (∀ x ∈ s.pending, x.draw.isSome = true) ∨ s.drawCount = t.drawCount

/-- Two outcomes are next states that `P` relates, or the same refusal. -/
inductive OutcomesAgree (P : State → State → Prop) :
    Host.Outcome State Fault Refusal → Host.Outcome State Fault Refusal → Prop where
  | next {s t : State} (h : P s t) : OutcomesAgree P (.next s) (.next t)
  | refused (r : Refusal) : OutcomesAgree P (.refused r) (.refused r)

theorem OutcomesAgree.imp {P Q : State → State → Prop} {a b : Host.Outcome State Fault Refusal}
    (h : OutcomesAgree P a b) (hPQ : ∀ s t, P s t → Q s t) : OutcomesAgree Q a b := by
  cases h with
  | next h => exact .next (hPQ _ _ h)
  | refused r => exact .refused r

/-- A state is any state that agrees with it, but for the outputs, the answer and the draws. -/
theorem Agree.eq_update {s t : State} (h : Agree s t) :
    t = { s with out := t.out, answer := t.answer, drawCount := t.drawCount } := by
  obtain ⟨hr, hs, hb, hp⟩ := h
  cases s
  cases t
  simp_all [sameRegisters]

/-- No command changes what is pending. -/
theorem exec_pending {i : Instr} {s t : State} (h : exec i s = .next t) : t.pending = s.pending := by
  rcases (exec_effect h).rst_or_sameSetting with ⟨-, -, hp⟩ | ⟨-, -, hp⟩ <;> exact hp

/-- One command from two states that agree, with the same answer at hand or the same free value: the same outputs, and
states that agree. -/
theorem exec_agrees {u v : State} (i : Instr) (h : Agree u v) (ha : v.answer = u.answer)
    (hd : u.answer.isSome = true ∨ u.drawCount = v.drawCount) :
    OutcomesAgree (fun s t => s.out = t.out ∧ Agree s t ∧ s.pending = u.pending ∧
      (u.drawCount = v.drawCount → s.drawCount = t.drawCount)) (exec i u) (exec i v) := by
  have hv := h.eq_update
  rw [ha] at hv
  rcases hd with hsome | hcount
  · have run (n : Nat) (o : Outputs) : exec i { u with out := o, drawCount := n } =
        mapNext (State.countFrom n) (exec i { u with drawCount := 0 }) :=
      (exec_setOut i { u with drawCount := n } o).trans (exec_countFrom n (s := { u with drawCount := 0 }) hsome i)
    have runU : exec i u = _ := run u.drawCount u.out
    have runV : exec i v = _ := (congrArg (exec i) hv).trans (run v.drawCount v.out)
    rw [runU, runV]
    cases hb : exec i { u with drawCount := 0 } with
    | next s =>
      have pending := exec_pending hb
      exact .next ⟨rfl, ⟨(Agree.refl s).registers, rfl, rfl, rfl⟩, pending, fun hn => congrArg (· + s.drawCount) hn⟩
    | fault r => cases r
    | refused r => exact .refused r
  · rw [← hcount] at hv
    have runV : exec i v = exec i u := (congrArg (exec i) hv).trans (exec_setOut i u v.out)
    rw [runV]
    cases hu : exec i u with
    | next s => exact .next ⟨rfl, .refl s, exec_pending hu, fun _ => rfl⟩
    | fault r => cases r
    | refused r => exact .refused r

/-! ## Steps and runs -/

/-- With nothing issued a step waits. -/
theorem step_of_pending_nil {s : State} (h : s.pending = []) : step s = .next s := by
  rw [step, fetch_none.mpr h]

/-- With a word issued a step runs the command the word brings, or refuses the word, whatever the state. -/
theorem step_issued (x : Issue) :
    (∃ i, ∀ s rest, s.pending = x :: rest → step s = exec i { s with pending := rest, answer := x.draw }) ∨
      ∃ r, ∀ s rest, s.pending = x :: rest → step s = .refused r := by
  obtain ⟨w, d⟩ := x
  cases hd : decode w with
  | ok i =>
    refine .inl ⟨i, fun s rest hp => ?_⟩
    simp only [step, fetch_cons hp, hd]
  | error e =>
    cases w with
    | frame buf =>
      refine .inl ⟨.rx buf, fun s rest hp => ?_⟩
      simp only [step, fetch_cons hp, hd, rejectWord, exec]
    | hostCmd code operands =>
      refine .inr ?_
      cases e with
      | reservedCode =>
        exact ⟨.reservedCommandCode, fun s rest hp => by simp only [step, fetch_cons hp, hd, rejectWord]⟩
      | badOperands | notAFrame =>
        exact ⟨.malformedOperands code, fun s rest hp => by simp only [step, fetch_cons hp, hd, rejectWord]⟩

/-- One step of the run, with a command issued. -/
theorem step_agrees {s t : State} {x : Issue} {rest : List Issue} (h : SameRun s t) (hp : s.pending = x :: rest) :
    OutcomesAgree (fun s' t' => s'.out = t'.out ∧ SameRun s' t') (step s) (step t) := by
  obtain ⟨⟨registers, started, interval, pending⟩, draws⟩ := h
  have hpt : t.pending = x :: rest := pending ▸ hp
  rw [hp, List.forall_mem_cons] at draws
  rcases step_issued x with ⟨i, run⟩ | ⟨r, refuse⟩
  · rw [run s rest hp, run t rest hpt]
    refine (exec_agrees i (u := { s with pending := rest, answer := x.draw })
      (v := { t with pending := rest, answer := x.draw }) ⟨registers, started, interval, rfl⟩ rfl
      (draws.imp_left And.left)).imp ?_
    rintro s' t' ⟨hout, agree, hrest, hcount⟩
    refine ⟨hout, agree, draws.imp (fun hall => ?_) hcount⟩
    rw [hrest]
    exact hall.2
  · rw [refuse s rest hp, refuse t rest hpt]
    exact .refused r

theorem run_succ_of_next {n : Nat} {s t : State} (h : step s = .next t) :
    Sys2Proof.core.run (n + 1) s = Sys2Proof.core.run n t := by
  simp only [Host.Core.run, show Sys2Proof.core.step s = .next t from h]

theorem run_succ_of_refused {n : Nat} {s : State} {r : Refusal} (h : step s = .refused r) :
    Sys2Proof.core.run (n + 1) s = .refused r := by
  simp only [Host.Core.run, show Sys2Proof.core.step s = .refused r from h]

/-- The outputs and the end of a run. -/
theorem run_agrees (n : Nat) {s t : State} (h : SameRun s t) :
    outputsOf n s = outputsOf n t ∧ OutcomesAgree SameRun (Sys2Proof.core.run n s) (Sys2Proof.core.run n t) := by
  induction n generalizing s t with
  | zero => exact ⟨rfl, .next h⟩
  | succ n ih =>
    have pending := h.pending
    cases hp : s.pending with
    | nil =>
      have hpt : t.pending = [] := pending ▸ hp
      rw [run_succ_of_next (step_of_pending_nil hp), run_succ_of_next (step_of_pending_nil hpt), outputsOf, outputsOf, hp,
        hpt]
      exact ⟨rfl, (ih h).2⟩
    | cons x rest =>
      have hpt : t.pending = x :: rest := pending ▸ hp
      have agree := step_agrees h hp
      rw [outputsOf, outputsOf, hp, hpt]
      generalize hs : step s = a at agree ⊢
      generalize ht : step t = b at agree ⊢
      cases agree with
      | next same =>
        obtain ⟨hout, same⟩ := same
        obtain ⟨outputs, ends⟩ := ih same
        rw [run_succ_of_next hs, run_succ_of_next ht]
        exact ⟨congrArg₂ List.cons hout outputs, ends⟩
      | refused r =>
        rw [run_succ_of_refused hs, run_succ_of_refused ht]
        exact ⟨rfl, .refused r⟩

/-- The host observes the registers only. -/
theorem view_eq_of_sameRegisters {s t : State} (h : sameRegisters s t) : s.view = t.view := by
  obtain ⟨hid, hgw, hrole, hkind, hkinds, hmode, hconf, hcnt, hpend⟩ := h
  rw [State.view, State.view, hid, hgw, hrole, hkind, hkinds, hmode, hconf, hcnt, hpend]

/-- Settles O46: the two runs go step by step through states that agree, with the same outputs. -/
theorem runsDependOnRegistersCommandsAndDraws : Obligations.RunsDependOnRegistersCommandsAndDraws := by
  intro n s t registers started interval pending draws
  have same : SameRun s t := ⟨⟨registers, started, interval, pending⟩, draws⟩
  obtain ⟨outputs, ends⟩ := run_agrees n same
  refine ⟨outputs, ?_⟩
  rw [observe, observe]
  generalize Sys2Proof.core.run n s = a at ends ⊢
  generalize Sys2Proof.core.run n t = b at ends ⊢
  cases ends with
  | next h => exact congrArg some (congrArg₂ Prod.mk (view_eq_of_sameRegisters h.registers) outputs)
  | refused r => rfl

end Sys2Proof.Machine
end

section
/-! The overflow of an emission (60_exceptions.md R306): the draw is taken and the mode changes, with no frame on TX. -/

namespace Sys2Proof.Machine

/-- ENC's length check, on ordinals in the catalog (40_codec.md R144). -/
theorem packFrame_overflow (id : NodeId) (op : OpCode) (kind : DataKind) {payload : Bytes}
    (hlen : 65535 < payload.length) : packFrame id op.toByte kind.toByte payload = .error .errOverflow := by
  simp only [packFrame, checkedOrdinals_eq_some.mpr ⟨rfl, rfl⟩]
  exact if_pos hlen

/-- A draw that does not fit a frame is reported, and the mode change of the command that took it stands. -/
theorem emit_drawnAnswer_overflow (op : OpCode) (kind : DataKind) {r : Request} (m : Mode) {s : State} {a : Bytes}
    (ha : s.answer = some a) (hlen : 65535 < a.length) :
    emit op kind (drawnAnswer r s) ((afterDraw r (complete s)).setMode m) =
      { s with
        mode := m
        answer := none
        drawCount := s.drawCount + 1
        out := { status := .ok, report := some .errOverflow, request := some r } } := by
  rw [emit_drawnAnswer, drawResult_supplied ha, if_pos hlen, if_pos hlen]

/-- Settles O29: ENC's length check, and the draws that COMMAND and TICK emit. -/
theorem overflowKeepsTheStateChange : Obligations.OverflowKeepsTheStateChange := by
  refine ⟨fun id op kind payload s hs hlen => exec_enc_error hs (packFrame_overflow id op kind hlen),
    fun kind payload r s hs hm hr ha hlen => ?_, fun v s hs hm ha hlen => ?_⟩
  · have row : exec (.command s.cfgGwId kind payload) s = _ := exec_delivered hs (delivers_frameInstr (op := .command))
    rw [row, if_neg (not_not.mpr rfl), dispatchOp, onCommand_of_actuatorNode hm hr, applyCommand,
      emit_drawnAnswer_overflow _ _ _ ha hlen]
  · rw [exec_tick hs, tickArm_of_sensorReporting hm, tickSensorReporting, emit_drawnAnswer_overflow _ _ _ ha hlen]

end Sys2Proof.Machine
end

section
/-! UPD's checks in order (60_exceptions.md R313): the enumerations, the identity, the mode, the role. -/

namespace Sys2Proof

theorem OpCode.toByte_injective : Function.Injective OpCode.toByte := fun o o' h =>
  Option.some.inj (by rw [← OpCode.ofByte_toByte o, h, OpCode.ofByte_toByte])

end Sys2Proof

namespace Sys2Proof.Machine

/-- The accepted pairs, looked up by an op code's ordinal. -/
theorem forall_acceptedPairs_iff {m : Mode} {op : OpCode} :
    (∀ p ∈ acceptedPairs, ¬(p.1 = m ∧ p.2.toByte = op.toByte)) ↔ (m, op) ∉ acceptedPairs := by
  constructor
  · exact fun h hp => h _ hp ⟨rfl, rfl⟩
  · rintro h ⟨m', op'⟩ hp ⟨rfl, hop⟩
    exact h (OpCode.toByte_injective hop ▸ hp)

/-- A message from the gateway whose op code MODE accepts meets the role guard, and completes behind it. -/
theorem UpdateEffect.role_or_ok {id : NodeId} {op : OpCode} {kind : DataKind} {payload : Bytes} {s t : State}
    (h : UpdateEffect id op kind payload s t) (hid : id = s.cfgGwId) (hpair : (s.mode, op) ∈ acceptedPairs) :
    if op = .command ∧ s.cfgRole ≠ .actuatorNode ∨ op = .sensorDataReq ∧ s.cfgRole ≠ .sensorNode then
      t = raise .rejRole none s
    else t.out.status = .ok := by
  cases h with
  | identity hne => exact absurd hid hne
  | opmode _ hno => exact absurd hpair hno
  | role _ _ hguard =>
    rw [if_pos]
    rcases hguard with ⟨ho, hr⟩ | ⟨ho, hr⟩ <;> simp [ho, hr]
  | confirm _ ho | activate _ ho | ack _ ho =>
    subst ho
    rw [if_neg (by simp)]
    rfl
  | report _ ho _ hr =>
    rw [if_neg (by simp [ho, hr])]
    rfl
  | apply _ ho _ hr => rw [if_neg (by simp [ho, hr]), applyCommand, emit_drawnAnswer]

/-- The checks of a message whose op code and data kind are in range. -/
theorem update_priority (id : NodeId) (op : OpCode) (kind : DataKind) (payload : Bytes) (s : State) :
    if id ≠ s.cfgGwId then update id op kind payload s = raise .rejIdentity none s
    else if (s.mode, op) ∉ acceptedPairs then update id op kind payload s = raise .rejOpmode none s
    else if op = .command ∧ s.cfgRole ≠ .actuatorNode ∨ op = .sensorDataReq ∧ s.cfgRole ≠ .sensorNode then
      update id op kind payload s = raise .rejRole none s
    else (update id op kind payload s).out.status = .ok := by
  by_cases hid : id = s.cfgGwId
  · rw [if_neg (not_not.mpr hid)]
    by_cases hpair : (s.mode, op) ∈ acceptedPairs
    · rw [if_neg (not_not.mpr hpair)]
      exact (update_effect id op kind payload s).role_or_ok hid hpair
    · rw [if_pos hpair, update, identityGate, if_pos hid]
      exact dispatchOp_of_not_accepted kind payload hpair
  · rw [if_pos hid]
    exact if_neg hid

/-- Settles O13: the ordinals' check, then the checks of a message in range. -/
theorem updPriority : Obligations.UpdPriority := by
  intro m s hs
  have ordinals := checkedOrdinals_isSome_iff (op := m.op) (kind := m.kind)
  cases hm : checkedOrdinals m.op m.kind with
  | none =>
    have run : exec (.upd m) s = .next (raise .errEnum none s) := by
      simp only [exec, execUpd, hm, inSession_of_started hs]
    have reserved : ¬ (m.op.toNat ≤ 7 ∧ m.kind.toNat ≤ 6) := by simpa [hm] using ordinals
    refine ⟨_, run, ?_⟩
    rw [if_pos (by omega)]
    rfl
  | some pair =>
    obtain ⟨op, kind⟩ := pair
    obtain ⟨ho, hk⟩ := checkedOrdinals_eq_some.mp hm
    have run := exec_of_delivers (.inr (.inl ⟨m, rfl, rfl, ho, hk, rfl⟩)) s
    have range : m.op.toNat ≤ 7 ∧ m.kind.toNat ≤ 6 := by simpa [hm] using ordinals
    refine ⟨_, run.trans (inSession_of_started hs _), ?_⟩
    rw [if_neg (by omega)]
    refine (if_congr Iff.rfl rfl (if_congr ?_ rfl (if_congr ?_ rfl rfl))).mpr (update_priority m.id op kind m.payload s)
    · rw [ho, forall_acceptedPairs_iff]
    · rw [ho, OpCode.toByte_injective.eq_iff, OpCode.toByte_injective.eq_iff]

end Sys2Proof.Machine
end

section
/-! How a command ends (60_exceptions.md R315, R218): by its one failure, which sets output ports only, or with STATUS OK,
where a REPORT is the emission's overflow (R306). -/

namespace Sys2Proof.Machine

/-- A command that completes: STATUS OK, no INFO, and no REPORT but the overflow of an emission whose draw it took. -/
structure Completes (t : State) : Prop where
  status : t.out.status = .ok
  info : t.out.info = none
  report : t.out.report ≠ none → t.out.report = some .errOverflow ∧ t.out.tx = none ∧ t.out.request ≠ none

/-- A command that sets ports and no REPORT completes. -/
theorem Completes.of_report_none {t : State} (status : t.out.status = .ok) (info : t.out.info = none)
    (report : t.out.report = none) : Completes t := ⟨status, info, fun h => absurd report h⟩

/-- A command that emits its draw completes, whether or not the draw fits a frame. -/
theorem completes_emit_drawnAnswer (op : OpCode) (kind : DataKind) (r : Request) (m : Mode) (s : State) :
    Completes (emit op kind (drawnAnswer r s) ((afterDraw r (complete s)).setMode m)) := by
  rw [emit_drawnAnswer]
  refine ⟨rfl, rfl, fun h => ?_⟩
  by_cases hlen : 65535 < (drawResult r s).length
  · exact ⟨if_pos hlen, if_pos hlen, nofun⟩
  · exact absurd (if_neg hlen) h

/-- How a command with a next state ends. -/
inductive CommandEnd (i : Instr) (s : State) : State → Prop where
  | rejected (e : Status) (he : e ≠ .ok) : CommandEnd i s (raise e none s)
  | undecoded (buf : Bytes) (e : CodecError) (hi : i = .dec buf ∨ i = .rx buf) (he : parseFrame buf = .error e) :
      CommandEnd i s (raiseCodec e s)
  | completed (t : State) (h : Completes t) : CommandEnd i s t

/-- A message is rejected or completes. -/
theorem UpdateEffect.commandEnd (i : Instr) {id : NodeId} {op : OpCode} {kind : DataKind} {payload : Bytes} {s t : State}
    (h : UpdateEffect id op kind payload s t) : CommandEnd i s t := by
  cases h with
  | identity | opmode | role => exact .rejected _ nofun
  | confirm | activate | report | ack => exact .completed _ (.of_report_none rfl rfl rfl)
  | apply => exact .completed _ (completes_emit_drawnAnswer ..)

/-- A tick completes. -/
theorem TickEffect.completes {s t : State} (h : TickEffect s t) : Completes t := by
  cases h with
  | idle | enter | again | count => exact .of_report_none rfl rfl rfl
  | sample => exact completes_emit_drawnAnswer ..

/-- A command with a next state ends in one of these ways. -/
theorem exec_end {i : Instr} {s t : State} (h : exec i s = .next t) : CommandEnd i s t := by
  cases exec_effect h with
  | reset | packed | parsed | checked => exact .completed _ (.of_report_none rfl rfl rfl)
  | rejected e he => exact .rejected e he
  | undecoded buf e _ hi he => exact .undecoded buf e hi he
  | updated _ _ _ _ _ _ _ hu => exact hu.commandEnd i
  | ticked _ _ _ ht => exact .completed _ ht.completes

/-- DEC and RX of a buffer that does not decode fail alike (41_session_fsm.md R215, 60_exceptions.md R314). -/
theorem exec_of_undecoded {i : Instr} {buf : Bytes} {e : CodecError} (hi : i = .dec buf ∨ i = .rx buf)
    (he : parseFrame buf = .error e) (s : State) : exec i s = inSession s (raiseCodec e s) := by
  rcases hi with rfl | rfl
  · simp only [exec, execDec, he]
  · simp only [exec, execRx, he]

/-- INFO is a decode failure's offset, and stands on its port after no other command (40_codec.md R150). -/
theorem exec_info_iff {i : Instr} {s t : State} (h : exec i s = .next t) (k : Nat) :
    t.out.info = some k ↔
      ∃ buf e, (i = .dec buf ∨ i = .rx buf) ∧ parseFrame buf = .error e ∧ k = errorOffset e := by
  constructor
  · intro hk
    cases exec_end h with
    | rejected => cases hk
    | undecoded buf e hi he => exact ⟨buf, e, hi, he, (Option.some.inj hk).symm⟩
    | completed _ hc =>
      rw [hc.info] at hk
      cases hk
  · rintro ⟨buf, e, hi, he, rfl⟩
    rw [exec_of_undecoded hi he] at h
    obtain ⟨-, rfl⟩ := inSession_next.mp h
    rfl

/-- Settles O41: a failing command ends by `raise`, and one that completes has no REPORT but the overflow. -/
theorem failuresArePrecise : Obligations.FailuresArePrecise := by
  intro i s t h
  refine ⟨fun hfail => ?_, exec_info_iff h, fun hok => ?_⟩
  · cases exec_end h with
    | rejected | undecoded => exact ⟨rfl, rfl, rfl, rfl, rfl, rfl, rfl, rfl⟩
    | completed _ hc => exact absurd hc.status hfail
  · cases exec_end h with
    | rejected _ he => exact absurd hok he
    | undecoded _ e => exact absurd hok (errorStatus_ne_ok e)
    | completed _ hc => exact hc.report

end Sys2Proof.Machine
end

section
/-! The first RST and what waits for it (70_reset_and_hazards.md R340 to R342). -/

namespace Sys2Proof.Machine

/-- An announce kind is the data kind with its ordinal (10_state.md R36). -/
theorem announceKindOf_eq_some {k : BitVec 3} {kind : DataKind} (h : kind.toByte = k.setWidth 8) :
    announceKindOf k = some kind := by
  rw [announceKindOf, ← h, DataKind.ofByte_toByte]

/-- Every announce kind but 7 is in the catalog (R36). -/
theorem exists_toByte_eq_announceKind {k : BitVec 3} (h : k.toNat ≤ 6) :
    ∃ kind : DataKind, kind.toByte = k.setWidth 8 := by
  have catalogued : (DataKind.ofByte (k.setWidth 8)).isSome := by
    rw [DataKind.ofByte_isSome, decide_eq_true_iff]
    bv_omega
  obtain ⟨kind, hkind⟩ := Option.isSome_iff_exists.mp catalogued
  exact ⟨kind, DataKind.toByte_of_ofByte hkind⟩

/-- RST with an announce kind in the catalog begins a session in every state. -/
theorem exec_rst_of_announceKind {cfg : RstCfg} {kind : DataKind} (h : announceKindOf cfg.announceKind = some kind)
    (s : State) : exec (.rst cfg) s = .next (startSession cfg kind s) := by
  simp only [exec, execRst, h]

/-- RST without one is refused. -/
theorem exec_rst_of_reserved {cfg : RstCfg} (h : announceKindOf cfg.announceKind = none) (s : State) :
    exec (.rst cfg) s = .refused .reservedAnnounceKind := by
  simp only [exec, execRst, h]

/-- Settles O30: the catalog's seven announce kinds begin a session, and 7 is none of them. -/
theorem rstResult : Obligations.RstResult := by
  intro cfg s
  refine ⟨rfl, fun kind h => exec_rst_of_announceKind (announceKindOf_eq_some h) s, exists_toByte_eq_announceKind,
    fun h => exec_rst_of_reserved ?_ s⟩
  rw [h]
  rfl

/-- Every command but RST has its meaning in a session only (R342). -/
theorem exec_eq_inSession {i : Instr} (hi : isRst i = false) (s : State) : ∃ t, exec i s = inSession s t := by
  cases instrKind i with
  | rst cfg h =>
    subst h
    cases hi
  | tick h =>
    subst h
    exact ⟨tickArm s, rfl⟩
  | message _ _ _ _ h => exact ⟨_, exec_of_delivers h s⟩
  | outputs _ h => exact ⟨_, h s⟩

/-- Settles O31: what runs in a session only is refused before it. -/
theorem beforeTheFirstRstOnlyRst : Obligations.BeforeTheFirstRstOnlyRst := by
  intro i s hs hi
  obtain ⟨t, run⟩ := exec_eq_inSession hi s
  rw [run]
  exact inSession_refused.mpr ⟨hs, rfl⟩

end Sys2Proof.Machine
end

section
/-! The windows a TICK ends (70_reset_and_hazards.md R347, R348): between the message that opens one and the next TICK,
no command but RST writes anything but output ports. -/

namespace Sys2Proof.Machine

/-- A node that has taken a message whose effect waits for the next TICK: GATEWAY_INIT's confirmation (R203), or
SENSOR_DATA_REQ's report (R208). -/
def AwaitsTick (s : State) : Prop := s.mode = .initializing ∧ s.gwConfirmed = true ∨ s.mode = .sensorReporting

section
variable {s t : State}

/-- The confirmation of a confirmed node changes nothing. -/
theorem confirmGateway_of_confirmed (h : s.gwConfirmed = true) : s.confirmGateway = s := by
  cases s
  cases h
  rfl

/-- A message in a window sets output ports and emits nothing: only a second GATEWAY_INIT is accepted there. -/
theorem UpdateEffect.setOut_of_awaitsTick {id : NodeId} {op : OpCode} {kind : DataKind} {payload : Bytes}
    (e : UpdateEffect id op kind payload s t) (h : AwaitsTick s) : ∃ o : Outputs, o.tx = none ∧ t = s.setOut o := by
  cases e with
  | identity | opmode | role | ack => exact ⟨_, rfl, rfl⟩
  | confirm _ _ hm =>
    rcases h with ⟨-, hg⟩ | hr
    · exact ⟨okOutputs, rfl, by rw [confirmGateway_of_confirmed hg]; rfl⟩
    · simp [hm] at hr
  | activate _ _ hm | report _ _ hm => simp [AwaitsTick, hm] at h
  | apply _ _ hm => rcases hm with hm | hm <;> simp [AwaitsTick, hm] at h

/-- A command in a window completes, sets output ports only, and emits nothing. -/
theorem exec_of_awaitsTick {i : Instr} (hs : s.started = true) (h : AwaitsTick s) (hi : inWindow i) :
    ∃ o : Outputs, o.tx = none ∧ exec i s = .next (s.setOut o) := by
  obtain ⟨htick, hrst⟩ := hi
  obtain ⟨t, run⟩ := exec_eq_inSession hrst s
  rw [inSession_of_started hs] at run
  have effect : ∃ o : Outputs, o.tx = none ∧ t = s.setOut o := by
    cases exec_effect run with
    | reset _ _ heq =>
      subst heq
      cases hrst
    | packed | parsed | checked | rejected | undecoded => exact ⟨_, rfl, rfl⟩
    | updated _ _ _ _ _ _ _ hu => exact hu.setOut_of_awaitsTick h
    | ticked _ _ heq => exact absurd heq htick
  obtain ⟨o, htx, rfl⟩ := effect
  exact ⟨o, htx, run⟩

/-- A run of such commands leaves the state the window opened in, but for the output ports. -/
theorem runInstrs_of_awaitsTick {window : List Instr} (hs : s.started = true) (h : AwaitsTick s) (htx : s.out.tx = none)
    (hw : ∀ j ∈ window, inWindow j) : ∃ o : Outputs, o.tx = none ∧ runInstrs window s = some (s.setOut o) := by
  induction window generalizing s with
  | nil => exact ⟨s.out, htx, rfl⟩
  | cons i is ih =>
    obtain ⟨hi, his⟩ := List.forall_mem_cons.mp hw
    obtain ⟨o, ho, run⟩ := exec_of_awaitsTick hs h hi
    obtain ⟨o', ho', rest⟩ := ih (s := s.setOut o) hs h ho his
    refine ⟨o', ho', ?_⟩
    rw [runInstrs, run]
    exact rest

variable {i : Instr} {op : OpCode} {kind : DataKind} {payload : Bytes}

/-- A message from the gateway is dispatched on its op code. -/
theorem exec_from_gateway (hs : s.started = true) (h : delivers i s.cfgGwId op kind payload) :
    exec i s = .next (dispatchOp op kind payload s) := by
  rw [exec_delivered hs h, if_neg (not_not.mpr rfl)]

/-- The message that opens the confirmation's window (R203). -/
theorem exec_gatewayInit_accepted (hs : s.started = true) (hm : s.mode = .initializing)
    (h : delivers i s.cfgGwId .gatewayInit kind payload) : exec i s = .next (complete s.confirmGateway) := by
  rw [exec_from_gateway hs h, dispatchOp, onGatewayInit_eq, if_pos hm]

/-- The message that ends the announcements (R205). -/
theorem exec_initSuccess_accepted (hs : s.started = true) (hm : s.mode = .broadcasting)
    (h : delivers i s.cfgGwId .initSuccess kind payload) : exec i s = .next (complete (s.setMode .active)) := by
  rw [exec_from_gateway hs h, dispatchOp, onInitSuccess_eq, if_pos hm]

/-- The message that opens the report's window (R208). -/
theorem exec_sensorDataReq_accepted (hs : s.started = true) (hm : s.mode = .active) (hr : s.cfgRole = .sensorNode)
    (h : delivers i s.cfgGwId .sensorDataReq kind payload) :
    exec i s = .next (complete ((s.setMode .sensorReporting).setPendKind kind)) := by
  rw [exec_from_gateway hs h, dispatchOp, onSensorDataReq_eq, if_neg (not_not.mpr hm), if_neg (not_not.mpr hr)]

/-- A message from the gateway that MODE does not accept is rejected and lost. -/
theorem exec_of_not_accepted (hs : s.started = true) (h : delivers i s.cfgGwId op kind payload)
    (hp : (s.mode, op) ∉ acceptedPairs) : exec i s = .next (raise .rejOpmode none s) := by
  rw [exec_from_gateway hs h, dispatchOp_of_not_accepted kind payload hp]

/-- The TICK that ends the confirmation's window (R213). -/
theorem exec_tick_of_confirmed (hs : s.started = true) (hm : s.mode = .initializing) (hg : s.gwConfirmed = true) :
    exec .tick s = .next
      { s with
        mode := .broadcasting
        bcastCnt := 0#16
        out := { status := .ok, tx := some (frameBytes s.cfgNodeId 0x01#8 s.cfgAnnounceKind.toByte []) } } := by
  rw [exec_tick hs, tickArm_of_initializing hm, tickInitializing, if_pos hg, announce_eq]
  rfl

/-- The TICK that ends the report's window (R213). -/
theorem exec_tick_of_sensorReporting (hs : s.started = true) (hm : s.mode = .sensorReporting) :
    exec .tick s = .next (tickSensorReporting s) := by
  rw [exec_tick hs, tickArm_of_sensorReporting hm]

end

/-- Settles O48: GATEWAY_INIT leaves a confirmed INITIALIZING node, the window sets output ports only, and INIT_SUCCESS
waits for the mode that TICK enters. -/
theorem confirmationNeedsATick : Obligations.ConfirmationNeedsATick := by
  intro i kind payload window s t hs hm hi run hw
  cases (exec_gatewayInit_accepted hs hm hi).symm.trans run
  obtain ⟨o, htx, hrun⟩ := runInstrs_of_awaitsTick (s := complete s.confirmGateway) hs (.inl ⟨hm, rfl⟩) rfl hw
  refine ⟨_, hrun, hm, htx, fun j k p hj => exec_of_not_accepted hs hj ?_, ?_⟩
  · simp [hm, acceptedPairs]
  · exact ⟨_, exec_tick_of_confirmed hs hm rfl, rfl, rfl, fun j k p hj => exec_initSuccess_accepted hs rfl hj⟩

/-- Settles O49: SENSOR_DATA_REQ leaves a reporting node that has latched its kind, the window sets output ports only,
SENSOR_REPORTING accepts no op code, and TICK's report is of the latched kind. -/
theorem theReportingWindow : Obligations.TheReportingWindow := by
  intro i kind payload window s t hs hm hr hi run hw
  cases (exec_sensorDataReq_accepted hs hm hr hi).symm.trans run
  obtain ⟨o, htx, hrun⟩ :=
    runInstrs_of_awaitsTick (s := complete ((s.setMode .sensorReporting).setPendKind kind)) hs (.inr rfl) rfl hw
  refine ⟨_, hrun, rfl, htx, fun j op k p hj => exec_of_not_accepted hs hj ?_, ?_⟩
  · simp [acceptedPairs]
  · refine ⟨_, exec_tick_of_sensorReporting hs rfl, ?_⟩
    rw [tickSensorReporting, emit_drawnAnswer]
    exact ⟨rfl, rfl, rfl⟩

end Sys2Proof.Machine
end

section
/-! The encoder and the decoder as inverses: a frame row's frame parses back to the row (30_encoding.md R100, R111), and a
host command's code and bundle name exactly the command that encodes to them (R121; the layout is log entry 8). -/

namespace Sys2Proof

/-! ## The fields of a bundle -/

/-- The low byte of a length read from two bytes (R107). -/
theorem lenLo_lenOf (lo hi : Byte) : lenLo (lenOf lo hi).toNat = lo := by
  rw [lenOf_toNat, lenLo]
  bv_omega

/-- The high byte of a length read from two bytes (R107). -/
theorem lenHi_lenOf (lo hi : Byte) : lenHi (lenOf lo hi).toNat = hi := by
  rw [lenOf_toNat, lenHi]
  bv_omega

/-- A role is the role of its bit, in a byte too (R114). -/
theorem Role.ofBit_toBit_setWidth (r : Role) : Role.ofBit ((r.toBit.setWidth 8).setWidth 1) = r := by cases r <;> rfl

/-- A byte below 2 is the byte of the role it names. -/
theorem Role.toBit_ofBit_setWidth {b : Byte} (h : b < 2#8) : (Role.ofBit (b.setWidth 1)).toBit.setWidth 8 = b := by
  revert b
  decide

/-- A word that is narrower than a byte is read back from the byte that holds it. -/
theorem setWidth_setWidth_byte {w : Nat} (v : BitVec w) (hw : w ≤ 8) : (v.setWidth 8).setWidth w = v := by
  rw [BitVec.setWidth_setWidth_of_le _ hw, BitVec.setWidth_eq]

/-- The host command codes (R121, R122). -/
theorem commandCode_cases (code : BitVec 3) :
    code = 0#3 ∨ code = 1#3 ∨ code = 2#3 ∨ code = 3#3 ∨ code = 4#3 ∨ code = 5#3 ∨ code = 6#3 ∨ code = 7#3 := by
  revert code
  decide

end Sys2Proof

namespace Sys2Proof.Machine

/-! ## Frame rows -/

/-- A frame row's word is the frame of its op code. -/
theorem encode_frameInstr (op : OpCode) (id : NodeId) (kind : DataKind) (payload : Bytes) :
    encode (frameInstr op id kind payload) = .frame (frameBytes id op.toByte kind.toByte payload) := by
  cases op <;> rfl

/-- A frame row decodes from its own word, whose payload the length field can declare. -/
theorem decode_encode_frameInstr (op : OpCode) (id : NodeId) (kind : DataKind) {payload : Bytes}
    (hfits : payloadFits payload = true) :
    decode (encode (frameInstr op id kind payload)) = .ok (frameInstr op id kind payload) := by
  have parsed := parseFrame_frameBytes_append id op kind (of_decide_eq_true hfits) []
  rw [List.append_nil] at parsed
  rw [encode_frameInstr]
  simp only [decode, parsed, frameInstr]

/-! ## Host commands -/

/-- RST's bundle names the configuration it holds. -/
theorem rstOperands_bundle (c : RstCfg) :
    rstOperands (c.nodeId.toBytes ++ c.gwId.toBytes
      ++ [c.role.toBit.setWidth 8, c.announceKind.setWidth 8, c.kinds.setWidth 8]) = some (.rst c) := by
  have widths : c.role.toBit.setWidth 8 < 2#8 ∧ c.announceKind.setWidth 8 < 8#8 ∧ c.kinds.setWidth 8 < 128#8 := by
    refine ⟨?_, ?_, ?_⟩ <;> bv_omega
  refine (if_pos widths).trans ?_
  rw [Role.ofBit_toBit_setWidth, setWidth_setWidth_byte _ (by decide), setWidth_setWidth_byte _ (by decide)]

/-- What RST's bundle names encodes to it. -/
theorem encode_of_rstOperands {b : Bytes} {i : Instr} (h : rstOperands b = some i) : encode i = .hostCmd 0#3 b := by
  unfold rstOperands at h
  split at h
  case h_1 n0 n1 n2 n3 g0 g1 g2 g3 r a k =>
    obtain ⟨⟨hr, ha, hk⟩, hi⟩ := Option.ite_none_right_eq_some.mp h
    cases hi
    have hkind : (a.setWidth 3).setWidth 8 = a := by bv_omega
    have hkinds : (k.setWidth 7).setWidth 8 = k := by bv_omega
    simp only [encode, Role.toBit_ofBit_setWidth hr, hkind, hkinds, NodeId.toBytes, List.cons_append, List.nil_append]
  case h_2 => cases h

/-- What ENC's bundle names encodes to it. -/
theorem encode_of_encOperands {b : Bytes} {i : Instr} (h : encOperands b = some i) : encode i = .hostCmd 1#3 b := by
  unfold encOperands at h
  split at h
  case h_1 => cases h; rfl
  case h_2 => cases h

/-- What UPD's bundle names encodes to it. -/
theorem encode_of_updOperands {b : Bytes} {i : Instr} (h : updOperands b = some i) : encode i = .hostCmd 4#3 b := by
  unfold updOperands at h
  split at h
  case h_1 =>
    cases h
    simp only [encode, lenLo_lenOf, lenHi_lenOf, NodeId.toBytes, List.cons_append, List.nil_append]
  case h_2 => cases h

/-- UPD's bundle names the message it holds. -/
theorem updOperands_bundle (m : Message) :
    updOperands (m.id.toBytes ++ [m.op, m.kind, lenLo m.len.toNat, lenHi m.len.toNat] ++ m.payload) = some (.upd m) := by
  have len : lenOf (lenLo m.len.toNat) (lenHi m.len.toNat) = m.len := by
    rw [lenOf_bytes, BitVec.ofNat_toNat, BitVec.setWidth_eq]
  simp only [NodeId.toBytes, List.cons_append, List.nil_append, updOperands, len]

/-- A code and a bundle name exactly the command whose word they are. -/
theorem commandOperands_eq_some_iff {code : BitVec 3} {b : Bytes} {i : Instr} :
    commandOperands code b = some i ↔ encode i = .hostCmd code b := by
  constructor
  · intro h
    rcases commandCode_cases code with rfl | rfl | rfl | rfl | rfl | rfl | rfl | rfl
    · exact encode_of_rstOperands h
    · exact encode_of_encOperands h
    · cases h; rfl
    · cases h; rfl
    · exact encode_of_updOperands h
    · cases h; rfl
    · have named : (if b = [] then some Instr.tick else none) = some i := h
      obtain ⟨rfl, hi⟩ := Option.ite_none_right_eq_some.mp named
      cases hi
      rfl
    · cases h
  · intro h
    cases i with
    | rst c => cases h; exact rstOperands_bundle c
    | upd m => cases h; exact updOperands_bundle m
    | enc | dec | chkstart | rx | tick => cases h; rfl
    | gatewayInit | nodeInit | initSuccess | command | commandExec | sensorDataReq | sensorData | ack => cases h

/-- A host command's word decodes to the command its code and bundle name. -/
theorem decode_hostCmd_eq_ok_iff {code : BitVec 3} {b : Bytes} {i : Instr} :
    decode (.hostCmd code b) = .ok i ↔ commandOperands code b = some i := by
  by_cases h7 : code = 7#3
  · subst h7
    exact ⟨nofun, nofun⟩
  · cases h : commandOperands code b <;> simp [decode, h7, h]

/-- Settles O52: a frame row through the parser's reading of its frame, a host command through the command its bundle
names. -/
theorem decodeOfEncode : Obligations.DecodeOfEncode := by
  intro i hi
  have host {j : Instr} {code : BitVec 3} {b : Bytes} (h : encode j = .hostCmd code b) : decode (encode j) = .ok j := by
    rw [h, decode_hostCmd_eq_ok_iff, commandOperands_eq_some_iff, h]
  cases i with
  | gatewayInit id kind p => exact decode_encode_frameInstr .gatewayInit id kind hi
  | nodeInit id kind p => exact decode_encode_frameInstr .nodeInit id kind hi
  | initSuccess id kind p => exact decode_encode_frameInstr .initSuccess id kind hi
  | command id kind p => exact decode_encode_frameInstr .command id kind hi
  | commandExec id kind p => exact decode_encode_frameInstr .commandExec id kind hi
  | sensorDataReq id kind p => exact decode_encode_frameInstr .sensorDataReq id kind hi
  | sensorData id kind p => exact decode_encode_frameInstr .sensorData id kind hi
  | ack id kind p => exact decode_encode_frameInstr .ack id kind hi
  | rst | enc | dec | chkstart | upd | rx | tick => exact host rfl

/-- Settles O53: a word that decodes to a command is that command's word. -/
theorem encodeOfDecodedHostCommand : Obligations.EncodeOfDecodedHostCommand := fun _ _ _ h =>
  commandOperands_eq_some_iff.mp (decode_hostCmd_eq_ok_iff.mp h)

/-- Settles O54: the two frames are the words of the rows they stand for, and the three host words decode by their code. -/
theorem someWordsDecodeAsTheSpecWritesThem : Obligations.SomeWordsDecodeAsTheSpecWritesThem :=
  ⟨decodeOfEncode (.sensorData ⟨0x31#8, 0x31#8, 0x30#8, 0x31#8⟩ .tempS [0x32#8, 0x33#8, 0x2E#8, 0x35#8]) rfl,
    decodeOfEncode (.command ⟨0x30#8, 0x30#8, 0x30#8, 0x31#8⟩ .act1 [0x4F#8, 0x4E#8]) rfl,
    decodeOfEncode .tick rfl, decodeOfEncode (.rx [0x31#8]) rfl, rfl⟩

end Sys2Proof.Machine
end

section
/-! A step by the word it takes off (00_scope.md R8, 30_encoding.md R123), and the bundles a host command refuses (log
entry 8). -/

namespace Sys2Proof.Machine

/-- A word that decodes runs its instruction. -/
theorem step_of_decode_ok {s : State} {x : Issue} {rest : List Issue} {i : Instr} (hp : s.pending = x :: rest)
    (hd : decode x.word = .ok i) : step s = exec i { s with pending := rest, answer := x.draw } := by
  simp only [step, fetch_cons hp, hd]

/-- A word that does not decode is rejected. -/
theorem step_of_decode_error {s : State} {x : Issue} {rest : List Issue} {e : DecodeError} (hp : s.pending = x :: rest)
    (hd : decode x.word = .error e) :
    step s = rejectWord x.word e { s with pending := rest, answer := x.draw } := by
  simp only [step, fetch_cons hp, hd]

/-- Settles O50: the step on a word that decodes, on one that does not, and with nothing issued. -/
theorem stepRunsTheDecodedInstruction : Obligations.StepRunsTheDecodedInstruction := by
  refine ⟨fun s w d rest i hp hd => step_of_decode_ok hp hd, fun s buf d rest e hp he => ?frame,
    fun s code operands d rest hp hd => step_of_decode_error hp hd, fun s hp => step_of_pending_nil hp⟩
  case frame =>
    have rejected : decode (.frame buf) = .error (.notAFrame e) := by simp only [decode, he]
    exact step_of_decode_error hp rejected

/-- Every command is RST or another. -/
theorem rst_or_isRst_eq_false (i : Instr) : (∃ cfg, i = .rst cfg) ∨ isRst i = false := by
  cases i with
  | rst cfg => exact .inl ⟨cfg, rfl⟩
  | _ => exact .inr rfl

/-- A command is refused for one of two reasons (70_reset_and_hazards.md R340, R342). -/
theorem exec_refused {i : Instr} {s : State} {r : Refusal} (h : exec i s = .refused r) :
    r = .beforeFirstRst ∨ r = .reservedAnnounceKind := by
  rcases rst_or_isRst_eq_false i with ⟨cfg, rfl⟩ | hi
  · cases hk : announceKindOf cfg.announceKind with
    | none =>
      cases (exec_rst_of_reserved hk s).symm.trans h
      exact .inr rfl
    | some kind => cases (exec_rst_of_announceKind hk s).symm.trans h
  · obtain ⟨t, run⟩ := exec_eq_inSession hi s
    exact .inl (inSession_refused.mp (run.symm.trans h)).2

/-- A host command is refused for its bundle exactly where its code and bundle name no command. -/
theorem step_eq_malformedOperands_iff {s : State} {code : BitVec 3} {operands : Bytes} {d : Option Bytes}
    {rest : List Issue} (h7 : code ≠ 7#3) (hp : s.pending = ⟨.hostCmd code operands, d⟩ :: rest) :
    step s = .refused (.malformedOperands code) ↔ commandOperands code operands = none := by
  cases hc : commandOperands code operands with
  | some i =>
    rw [step_of_decode_ok hp (decode_hostCmd_eq_ok_iff.mpr hc)]
    refine ⟨fun h => ?_, nofun⟩
    rcases exec_refused h with hr | hr <;> cases hr
  | none =>
    have rejected : decode (.hostCmd code operands) = .error (.badOperands code) := by simp only [decode, if_neg h7, hc]
    exact iff_of_true (step_of_decode_error hp rejected) rfl

/-! ## The shapes -/

/-- RST's bundle is eleven bytes, the last three in their widths. -/
theorem rstOperands_eq_none_iff (b : Bytes) :
    rstOperands b = none ↔ b.length ≠ 11 ∨ 2 ≤ (byteAt b 8).toNat ∨ 8 ≤ (byteAt b 9).toNat ∨
      128 ≤ (byteAt b 10).toNat := by
  unfold rstOperands
  split
  case h_1 n0 n1 n2 n3 g0 g1 g2 g3 r a k =>
    rw [ite_eq_right_iff]
    simp only [byteAt, List.length_cons, List.length_nil, List.getD_cons_succ, List.getD_cons_zero, BitVec.lt_def,
      BitVec.toNat_ofNat, reduceCtorEq, imp_false]
    omega
  case h_2 hshape =>
    refine iff_of_true rfl (.inl fun hlen => ?_)
    match b, hlen with
    | [_, _, _, _, _, _, _, _, _, _, _], _ => exact hshape _ _ _ _ _ _ _ _ _ _ _ rfl

/-- ENC's bundle is at least the six bytes before the payload. -/
theorem encOperands_eq_none_iff (b : Bytes) : encOperands b = none ↔ b.length < 6 := by
  unfold encOperands
  split
  case h_1 => simp
  case h_2 hshape =>
    refine iff_of_true rfl (Nat.not_le.mp fun hlen => ?_)
    match b, hlen with
    | _ :: _ :: _ :: _ :: _ :: _ :: _, _ => exact hshape _ _ _ _ _ _ _ rfl

/-- UPD's bundle is at least the eight bytes before the payload. -/
theorem updOperands_eq_none_iff (b : Bytes) : updOperands b = none ↔ b.length < 8 := by
  unfold updOperands
  split
  case h_1 => simp
  case h_2 hshape =>
    refine iff_of_true rfl (Nat.not_le.mp fun hlen => ?_)
    match b, hlen with
    | _ :: _ :: _ :: _ :: _ :: _ :: _ :: _ :: _, _ => exact hshape _ _ _ _ _ _ _ _ _ rfl

/-- TICK's bundle is empty. -/
theorem commandOperands_tick_eq_none_iff (b : Bytes) : commandOperands 6#3 b = none ↔ b ≠ [] := by
  have named : commandOperands 6#3 b = if b = [] then some .tick else none := rfl
  rw [named, ite_eq_right_iff]
  simp

/-- Settles O57: the bundles that name no command, code by code. -/
theorem malformedBundlesAreRefused : Obligations.MalformedBundlesAreRefused := by
  intro s code operands d rest h7 hp
  rw [step_eq_malformedOperands_iff h7 hp]
  have rst : commandOperands 0#3 operands = none ↔ _ := rstOperands_eq_none_iff operands
  have enc : commandOperands 1#3 operands = none ↔ _ := encOperands_eq_none_iff operands
  have upd : commandOperands 4#3 operands = none ↔ _ := updOperands_eq_none_iff operands
  have tick := commandOperands_tick_eq_none_iff operands
  rcases commandCode_cases code with rfl | rfl | rfl | rfl | rfl | rfl | rfl | rfl
  · simpa using rst
  · simpa using enc
  · simp [commandOperands]
  · simp [commandOperands]
  · simpa using upd
  · simp [commandOperands]
  · simpa using tick
  · exact absurd rfl h7

end Sys2Proof.Machine
end

section
/-! What DEC accepts (40_codec.md R150; D9 and D10: the decoder is strict): each stage that answers has taken its own
characters off the front, so a buffer that parses begins with the frame of its message. -/

namespace Sys2Proof.Machine

/-- The buffer from an offset on: the next `n` bytes, then the rest. -/
theorem drop_eq_take_append_drop (buf : Bytes) (k n : Nat) : buf.drop k = (buf.drop k).take n ++ buf.drop (k + n) := by
  rw [← List.drop_drop, List.take_append_drop]

section
variable {buf : Bytes}

/-- A pair that decodes to a byte is that byte's hex pair (D9). -/
theorem drop_of_pairAt {k : Nat} {v : Byte} (hlen : k + 2 ≤ buf.length) (h : pairAt buf k = some v) :
    buf.drop k = hexPair v ++ buf.drop (k + 2) := by
  rw [drop_eq_take_append_drop buf k 2, (pairAt_eq_some_iff hlen).mp h]

theorem drop_of_pairField {k : Nat} {v : Byte} (h : pairField buf k = .ok v) :
    buf.drop k = hexPair v ++ buf.drop (k + 2) := by
  rw [pairField_eq] at h
  split at h
  case isTrue => cases h
  case isFalse hlen =>
    cases hv : pairAt buf k with
    | none => rw [hv] at h; cases h
    | some w =>
      rw [hv] at h
      cases h
      exact drop_of_pairAt (Nat.not_lt.mp hlen) hv

theorem eq_of_startMarker (h : startMarker buf = .ok ()) : buf = hexPair Config.sm ++ buf.drop 2 := by
  rw [startMarker_eq] at h
  split at h
  case isTrue => cases h
  case isFalse hbytes =>
    split at h
    case isTrue => cases h
    case isFalse hlen =>
      have marker : buf.take 2 = [byteAt buf 0, byteAt buf 1] := take_two_drop (buf := buf) (k := 0) (by omega)
      obtain ⟨h0, h1⟩ : byteAt buf 0 = 0x31#8 ∧ byteAt buf 1 = 0x30#8 := by
        constructor <;> by_contra hne
        · exact hbytes (.inl ⟨by omega, hne⟩)
        · exact hbytes (.inr ⟨by omega, hne⟩)
      rw [h0, h1, ← hexPair_sm] at marker
      rw [← marker, List.take_append_drop]

theorem drop_of_idField {id : NodeId} (h : idField buf = .ok id) : buf.drop 2 = id.toBytes ++ buf.drop 6 := by
  rw [idField_eq] at h
  split at h
  case isTrue => cases h
  case isFalse hlen =>
    cases h
    rw [drop_eq_take_append_drop buf 2 2, drop_eq_take_append_drop buf 4 2, take_two_drop (by omega),
      take_two_drop (by omega)]
    rfl

theorem drop_of_opField {op : OpCode} (h : opField buf = .ok op) : buf.drop 6 = hexPair op.toByte ++ buf.drop 8 := by
  unfold opField at h
  split at h
  case h_1 => cases h
  case h_2 v hv =>
    split at h
    case h_1 op' hop =>
      cases h
      rw [OpCode.toByte_of_ofByte hop]
      exact drop_of_pairField hv
    case h_2 => cases h

theorem drop_of_kindField {kind : DataKind} (h : kindField buf = .ok kind) :
    buf.drop 8 = hexPair kind.toByte ++ buf.drop 10 := by
  unfold kindField at h
  split at h
  case h_1 => cases h
  case h_2 v hv =>
    split at h
    case h_1 kind' hkind =>
      cases h
      rw [DataKind.toByte_of_ofByte hkind]
      exact drop_of_pairField hv
    case h_2 => cases h

theorem drop_of_lenField {l : BitVec 16} (h : lenField buf = .ok l) :
    buf.drop 10 = hexPair (lenLo l.toNat) ++ hexPair (lenHi l.toNat) ++ buf.drop 14 := by
  unfold lenField at h
  split at h
  case h_1 => cases h
  case h_2 lo hlo =>
    split at h
    case h_1 => cases h
    case h_2 hi hhi =>
      cases h
      rw [lenLo_lenOf, lenHi_lenOf, drop_of_pairField hlo, drop_of_pairField hhi, List.append_assoc]

theorem drop_of_bodyField {l : Nat} {payload : Bytes} (h : bodyField buf l = .ok payload) :
    payload.length = l ∧ buf.drop 14 = payload ++ hexPair Config.em ++ buf.drop (16 + l) := by
  rw [bodyField_eq] at h
  split at h
  case isTrue => cases h
  case isFalse hlen =>
    split at h
    case isFalse => cases h
    case isTrue hem =>
      cases h
      refine ⟨?_, ?_⟩
      · rw [List.length_take, List.length_drop]
        omega
      · have marker := drop_of_pairAt (by omega) hem
        rw [show 14 + l + 2 = 16 + l by omega] at marker
        rw [List.append_assoc, ← marker]
        exact drop_eq_take_append_drop buf 14 l

/-- The parser answers exactly where every stage does. -/
theorem parseFrame_eq_ok_iff {p : ParsedFrame} :
    parseFrame buf = .ok p ↔ startMarker buf = .ok () ∧ idField buf = .ok p.id ∧ opField buf = .ok p.op ∧
      kindField buf = .ok p.kind ∧ lenField buf = .ok p.len ∧ bodyField buf p.len.toNat = .ok p.payload := by
  obtain ⟨id, op, kind, len, payload⟩ := p
  constructor
  · intro h
    unfold parseFrame at h
    iterate 6
      split at h
      · cases h
    cases h
    exact ⟨‹_›, ‹_›, ‹_›, ‹_›, ‹_›, ‹_›⟩
  · rintro ⟨hstart, hid, hop, hkind, hlen, hbody⟩
    simp only [parseFrame, hstart, hid, hop, hkind, hlen, hbody]

/-- A buffer that parses is the frame of its message, and bytes after it. -/
theorem eq_frameBytes_append_of_parseFrame {p : ParsedFrame} (h : parseFrame buf = .ok p) :
    p.payload.length = p.len.toNat ∧
      buf = frameBytes p.id p.op.toByte p.kind.toByte p.payload ++ buf.drop (16 + p.len.toNat) := by
  obtain ⟨hstart, hid, hop, hkind, hlen, hbody⟩ := parseFrame_eq_ok_iff.mp h
  obtain ⟨length, body⟩ := drop_of_bodyField hbody
  refine ⟨length, ?_⟩
  calc buf = hexPair Config.sm ++ buf.drop 2 := eq_of_startMarker hstart
    _ = frameBytes p.id p.op.toByte p.kind.toByte p.payload ++ buf.drop (16 + p.len.toNat) := by
      rw [drop_of_idField hid, drop_of_opField hop, drop_of_kindField hkind, drop_of_lenField hlen, body, frameBytes,
        length]
      simp only [List.append_assoc]

end

/-- Settles O5: DEC that answers STATUS OK has parsed the buffer, which begins with the frame of the message read. -/
theorem decAcceptsOnlyEncodedFrames : Obligations.DecAcceptsOnlyEncodedFrames := by
  intro buf s t h hok
  obtain ⟨hs, p, hp⟩ := parseFrame_ok_of_exec_dec h hok
  obtain ⟨length, frame⟩ := eq_frameBytes_append_of_parseFrame hp
  have len : BitVec.ofNat 16 p.payload.length = p.len := by rw [length, BitVec.ofNat_toNat, BitVec.setWidth_eq]
  cases (exec_dec_ok hs hp).symm.trans h
  refine ⟨p.id, p.op, p.kind, p.payload, _, ?fits, frame, ?msg, ?flen⟩
  case fits =>
    have := p.len.isLt
    omega
  case msg =>
    rw [len]
    rfl
  case flen =>
    rw [length]
    rfl

end Sys2Proof.Machine
end

section
/-! Commands that read no register (10_state.md R30), and the three ways one message reaches the block (41_session_fsm.md
R200, R215). -/

namespace Sys2Proof.Machine

/-- Settles O12: the packer, the parser and CHKSTART's bit look at the operands alone. -/
theorem codecCommandsReadAndWriteNoRegister : Obligations.CodecCommandsReadAndWriteNoRegister := by
  rintro i s t hs ht (⟨id, op, kind, p, rfl⟩ | ⟨buf, rfl⟩ | ⟨buf, rfl⟩)
  · cases hp : packFrame id op kind p with
    | error e => exact ⟨_, exec_enc_error hs hp, exec_enc_error ht hp⟩
    | ok f => exact ⟨_, exec_enc_ok hs hp, exec_enc_ok ht hp⟩
  · cases hp : parseFrame buf with
    | error e => exact ⟨_, exec_dec_error hs hp, exec_dec_error ht hp⟩
    | ok p => exact ⟨_, exec_dec_ok hs hp, exec_dec_ok ht hp⟩
  · exact ⟨_, inSession_of_started hs _, inSession_of_started ht _⟩

/-- Settles O15: UPD and the frame row bring the same message. -/
theorem updRunsTheFrameRowOfItsOpCode : Obligations.UpdRunsTheFrameRowOfItsOpCode := by
  intro m op kind s hop hkind
  rw [exec_of_delivers (.inr (.inl ⟨m, rfl, rfl, hop.symm, hkind.symm, rfl⟩)), exec_frameInstr]

/-- A message sets no port of DEC's. -/
theorem UpdateEffect.decPorts_none {id : NodeId} {op : OpCode} {kind : DataKind} {payload : Bytes} {s t : State}
    (h : UpdateEffect id op kind payload s t) : t.out.info = none ∧ t.out.msg = none ∧ t.out.flen = none := by
  cases h with
  | identity | opmode | role | confirm | activate | report | ack => exact ⟨rfl, rfl, rfl⟩
  | apply =>
    rw [applyCommand, emit_drawnAnswer]
    exact ⟨rfl, rfl, rfl⟩

/-- Settles O16: RX and the frame row bring the same message, and a message sets no port of DEC's. -/
theorem rxOfAFrameIsItsReceipt : Obligations.RxOfAFrameIsItsReceipt := by
  intro op id kind payload trailing s hlen
  have rx := exec_of_delivers (delivers_rx_frame (op := op) (id := id) (kind := kind) hlen trailing) s
  refine ⟨by rw [rx, exec_frameInstr], fun hs => ?_⟩
  exact ⟨_, rx.trans (inSession_of_started hs _), (update_effect id op kind payload s).decPorts_none⟩

/-- Settles O45: every command sets its own output ports, whatever they held. -/
theorem outputsAreNeverReadBack : Obligations.OutputsAreNeverReadBack := fun i s o => exec_setOut i s o

end Sys2Proof.Machine
end

section
/-! RST and State.reset (70_reset_and_hazards.md R340, R341; log entry 3), that a session's commands complete
(60_exceptions.md R300), and the state view's encodings (R301, 30_encoding.md R113, R114). -/

namespace Sys2Proof.Machine

/-- RST with a next state has begun a session. -/
theorem exec_rst_next {cfg : RstCfg} {s t : State} (h : exec (.rst cfg) s = .next t) :
    ∃ kind, t = startSession cfg kind s := by
  cases hk : announceKindOf cfg.announceKind with
  | none => cases (exec_rst_of_reserved hk s).symm.trans h
  | some kind =>
    cases (exec_rst_of_announceKind hk s).symm.trans h
    exact ⟨kind, rfl⟩

/-- Settles O35: the state RST leaves is a session that meets the invariants. -/
theorem rstEstablishesTheInvariants : Obligations.RstEstablishesTheInvariants := by
  intro cfg s t hinterval h
  obtain ⟨kind, rfl⟩ := exec_rst_next h
  have session := sessionInv_startSession cfg kind hinterval
  exact ⟨session, session.blockInv⟩

/-- State.reset is what RST leaves of it. -/
theorem startSession_resetCfg_reset : startSession State.resetCfg .tempS State.reset = State.reset := rfl

/-- Settles O34: State.reset is a state RST leaves. -/
theorem invariantsHoldAtReset : Obligations.InvariantsHoldAtReset := by
  have session : SessionInv (startSession State.resetCfg .tempS State.reset) := sessionInv_startSession _ _ (by decide)
  rw [startSession_resetCfg_reset] at session
  exact ⟨session.blockInv, session⟩

/-- Settles O33: RST with CFG-S writes every register of the view. -/
theorem resetIsTheStateRstLeaves : Obligations.ResetIsTheStateRstLeaves :=
  ⟨rfl, fun s => ⟨_, exec_rst_of_announceKind (kind := .tempS) rfl s, rfl, rfl, rfl⟩⟩

/-- No message ends a session. -/
theorem UpdateEffect.started {id : NodeId} {op : OpCode} {kind : DataKind} {payload : Bytes} {s t : State}
    (h : UpdateEffect id op kind payload s t) : t.started = s.started := by
  cases h with
  | identity | opmode | role | confirm | activate | report | ack => rfl
  | apply => rw [applyCommand, emit_drawnAnswer]

/-- No tick ends a session. -/
theorem TickEffect.started {s t : State} (h : TickEffect s t) : t.started = s.started := by
  cases h with
  | idle | enter | again | count => rfl
  | sample => rw [tickSensorReporting, emit_drawnAnswer]

/-- A command with a next state leaves a session. -/
theorem exec_started {i : Instr} {s t : State} (h : exec i s = .next t) : t.started = true := by
  cases exec_effect h with
  | reset => rfl
  | packed _ hs | parsed _ hs | checked _ hs | rejected _ _ hs | undecoded _ _ hs => exact hs
  | updated _ _ _ _ _ hs _ hu => exact hu.started.trans hs
  | ticked _ hs _ ht => exact ht.started.trans hs

/-- Settles O32: RST with an announce kind in the catalog, and every other command, has a next state in a session. -/
theorem inASessionEveryCommandCompletes : Obligations.InASessionEveryCommandCompletes := by
  intro i s hs hkind
  suffices completes : ∃ t, exec i s = .next t by
    obtain ⟨t, run⟩ := completes
    exact ⟨t, run, exec_started run, exec_pending run⟩
  rcases rst_or_isRst_eq_false i with ⟨cfg, rfl⟩ | hi
  · have catalogued : cfg.announceKind.toNat ≤ 6 := by
      have := hkind cfg rfl
      bv_omega
    obtain ⟨kind, hk⟩ := exists_toByte_eq_announceKind catalogued
    exact ⟨_, exec_rst_of_announceKind (announceKindOf_eq_some hk) s⟩
  · obtain ⟨t, run⟩ := exec_eq_inSession hi s
    exact ⟨t, run.trans (inSession_of_started hs t)⟩

/-- Settles O56: the encodings value by value; a byte's low three bits are its number's. -/
theorem encodingsOfStatusModeAndRole : Obligations.EncodingsOfStatusModeAndRole := by
  refine ⟨by decide, by decide, ⟨rfl, rfl, fun r => by cases r <;> rfl⟩, fun s => ?view⟩
  case view =>
    have flag : BitVec.ofBool s.gwConfirmed = if s.gwConfirmed then 1#1 else 0#1 := by cases s.gwConfirmed <;> rfl
    rw [State.view, flag, BitVec.ofNat_toNat, BitVec.ofNat_toNat]

end Sys2Proof.Machine
end

section
/-! Who writes GW_CONFIRMED, MODE, BCAST_CNT and PEND_KIND (10_state.md R39 to R42): what a message and a tick do to each,
then RST and the rest. -/

namespace Sys2Proof.Machine

section
variable {id : NodeId} {op : OpCode} {kind : DataKind} {payload : Bytes} {s t : State}

/-- A message leaves GW_CONFIRMED, or is GATEWAY_INIT from the gateway in INITIALIZING. -/
theorem UpdateEffect.gwConfirmed (h : UpdateEffect id op kind payload s t) :
    t.gwConfirmed = s.gwConfirmed ∨
      id = s.cfgGwId ∧ op = .gatewayInit ∧ s.mode = .initializing ∧ t.gwConfirmed = true := by
  cases h with
  | identity | opmode | role | activate | report | ack => exact .inl rfl
  | confirm hid ho hm => exact .inr ⟨hid, ho, hm, rfl⟩
  | apply => exact .inl (by rw [applyCommand, emit_drawnAnswer])

/-- A tick leaves GW_CONFIRMED. -/
theorem TickEffect.gwConfirmed (h : TickEffect s t) : t.gwConfirmed = s.gwConfirmed := by
  cases h with
  | idle | enter | again | count => rfl
  | sample => rw [tickSensorReporting, emit_drawnAnswer]

/-- A message leaves MODE, or takes one of its three edges. -/
theorem UpdateEffect.mode_edge (h : UpdateEffect id op kind payload s t) (hne : t.mode ≠ s.mode) :
    id = s.cfgGwId ∧
      (op = .initSuccess ∧ s.mode = .broadcasting ∧ t.mode = .active ∨
        op = .sensorDataReq ∧ s.mode = .active ∧ t.mode = .sensorReporting ∧ s.cfgRole = .sensorNode ∨
        op = .command ∧ s.mode = .active ∧ t.mode = .actuating ∧ s.cfgRole = .actuatorNode) := by
  cases h with
  | identity | opmode | role | confirm | ack => exact absurd rfl hne
  | activate hid ho hm => exact ⟨hid, .inl ⟨ho, hm, rfl⟩⟩
  | report hid ho hm hr => exact ⟨hid, .inr (.inl ⟨ho, hm, rfl, hr⟩)⟩
  | apply hid ho hm hr =>
    rw [applyCommand, emit_drawnAnswer] at hne ⊢
    have active : s.mode = .active := hm.resolve_right (Ne.symm hne)
    exact ⟨hid, .inr (.inr ⟨ho, active, rfl, hr⟩)⟩

/-- A tick leaves MODE, or takes one of its two edges. -/
theorem TickEffect.mode_edge (h : TickEffect s t) (hne : t.mode ≠ s.mode) :
    s.mode = .initializing ∧ s.gwConfirmed = true ∧ t.mode = .broadcasting ∨
      s.mode = .sensorReporting ∧ t.mode = .active := by
  cases h with
  | idle | again | count => exact absurd rfl hne
  | enter hm hg => exact .inl ⟨hm, hg, rfl⟩
  | sample hm =>
    rw [tickSensorReporting, emit_drawnAnswer]
    exact .inr ⟨hm, rfl⟩

/-- A message leaves BCAST_CNT. -/
theorem UpdateEffect.bcastCnt (h : UpdateEffect id op kind payload s t) : t.bcastCnt = s.bcastCnt := by
  cases h with
  | identity | opmode | role | confirm | activate | report | ack => rfl
  | apply => rw [applyCommand, emit_drawnAnswer]

/-- A tick leaves BCAST_CNT, clears it on entering BROADCASTING, or counts to the interval there. -/
theorem TickEffect.bcastCnt_of_ne (h : TickEffect s t) (hne : t.bcastCnt ≠ s.bcastCnt) :
    s.mode = .initializing ∧ t.mode = .broadcasting ∧ t.bcastCnt = 0#16 ∨
      s.mode = .broadcasting ∧ t.bcastCnt.toNat =
        if s.bcastInterval.toNat ≤ s.bcastCnt.toNat + 1 then 0 else s.bcastCnt.toNat + 1 := by
  cases h with
  | idle => exact absurd rfl hne
  | enter hm => exact .inl ⟨hm, rfl, rfl⟩
  | again hm _ hc => exact .inr ⟨hm, (if_pos hc).symm⟩
  | count hm _ hc =>
    have counted : (s.bcastCnt + 1#16).toNat = s.bcastCnt.toNat + 1 := by bv_omega
    exact .inr ⟨hm, counted.trans (if_neg (by omega)).symm⟩
  | sample =>
    rw [tickSensorReporting, emit_drawnAnswer] at hne
    exact absurd rfl hne

/-- A message leaves PEND_KIND, or is a SENSOR_DATA_REQ that latches its kind. -/
theorem UpdateEffect.pendKind_of_ne (h : UpdateEffect id op kind payload s t) (hne : t.pendKind ≠ s.pendKind) :
    id = s.cfgGwId ∧ op = .sensorDataReq ∧ s.mode = .active ∧ t.mode = .sensorReporting ∧ s.cfgRole = .sensorNode ∧
      t.pendKind = kind := by
  cases h with
  | identity | opmode | role | confirm | activate | ack => exact absurd rfl hne
  | report hid ho hm hr => exact ⟨hid, ho, hm, rfl, hr, rfl⟩
  | apply =>
    rw [applyCommand, emit_drawnAnswer] at hne
    exact absurd rfl hne

/-- A tick leaves PEND_KIND. -/
theorem TickEffect.pendKind (h : TickEffect s t) : t.pendKind = s.pendKind := by
  cases h with
  | idle | enter | again | count => rfl
  | sample => rw [tickSensorReporting, emit_drawnAnswer]

end

/-- Every command but RST leaves GW_CONFIRMED, or brings a GATEWAY_INIT from the gateway in INITIALIZING. -/
theorem exec_gwConfirmed {i : Instr} {s t : State} (h : exec i s = .next t) (hi : isRst i = false) :
    t.gwConfirmed = s.gwConfirmed ∨
      s.mode = .initializing ∧ t.gwConfirmed = true ∧ ∃ kind payload, delivers i s.cfgGwId .gatewayInit kind payload := by
  cases exec_effect h with
  | reset _ _ hrst =>
    subst hrst
    cases hi
  | packed | parsed | checked | rejected | undecoded => exact .inl rfl
  | ticked _ _ _ ht => exact .inl ht.gwConfirmed
  | updated id op kind payload _ _ hd hu =>
    rcases hu.gwConfirmed with heq | ⟨rfl, rfl, hm, ht⟩
    · exact .inl heq
    · exact .inr ⟨hm, ht, kind, payload, hd⟩

/-- Settles O38: RST clears GW_CONFIRMED, and of the other commands only an accepted GATEWAY_INIT writes it. -/
theorem gatewayConfirmedWriters : Obligations.GatewayConfirmedWriters := by
  intro i s t h
  rcases rst_or_isRst_eq_false i with ⟨cfg, rfl⟩ | hi
  · obtain ⟨kind, rfl⟩ := exec_rst_next h
    exact ⟨fun _ _ => rfl, nofun, fun _ => rfl⟩
  · refine ⟨fun hset hclear => ?cleared, fun hclear hset => ?set, fun hrst => by simp [hi] at hrst⟩
    case cleared =>
      rcases exec_gwConfirmed h hi with heq | ⟨-, ht, -⟩
      · simp [heq, hset] at hclear
      · simp [ht] at hclear
    case set =>
      rcases exec_gwConfirmed h hi with heq | ⟨hm, -, hd⟩
      · simp [heq, hclear] at hset
      · exact ⟨hm, hd⟩

/-- Settles O39: the edges of a message, of a tick, and RST's. -/
theorem modeChangesOnlyAlongItsEdges : Obligations.ModeChangesOnlyAlongItsEdges := by
  intro i s t h hne
  cases exec_effect h with
  | reset cfg kind hi =>
    subst hi
    exact .inl ⟨rfl, rfl⟩
  | packed | parsed | checked | rejected | undecoded => exact absurd rfl hne
  | ticked _ _ hi ht =>
    rcases ht.mode_edge hne with ⟨hm, hg, ht⟩ | ⟨hm, ht⟩
    · exact .inr (.inl ⟨hi, hm, hg, ht⟩)
    · exact .inr (.inr (.inl ⟨hi, hm, ht⟩))
  | updated id op kind payload _ _ hi hu =>
    obtain ⟨rfl, ⟨rfl, hm, ht⟩ | ⟨rfl, hm, ht, hr⟩ | ⟨rfl, hm, ht, hr⟩⟩ := hu.mode_edge hne
    · exact .inr (.inr (.inr (.inl ⟨hm, ht, kind, payload, hi⟩)))
    · exact .inr (.inr (.inr (.inr (.inl ⟨hm, ht, hr, kind, payload, hi⟩))))
    · exact .inr (.inr (.inr (.inr (.inr ⟨hm, ht, hr, kind, payload, hi⟩))))

/-- Settles O40: RST's zeros, the tick's counting, and the latch of SENSOR_DATA_REQ. -/
theorem counterAndLatchWriters : Obligations.CounterAndLatchWriters := by
  intro i s t h
  cases exec_effect h with
  | reset cfg kind hi =>
    subst hi
    exact ⟨fun _ => .inl ⟨rfl, rfl⟩, fun _ => .inl ⟨rfl, rfl⟩⟩
  | packed | parsed | checked | rejected | undecoded => exact ⟨fun hne => absurd rfl hne, fun hne => absurd rfl hne⟩
  | ticked _ _ hi ht =>
    refine ⟨fun hne => .inr ?_, fun hne => absurd ht.pendKind hne⟩
    exact (ht.bcastCnt_of_ne hne).imp (⟨hi, ·⟩) (⟨hi, ·⟩)
  | updated id op kind payload _ _ hi hu =>
    refine ⟨fun hne => absurd hu.bcastCnt hne, fun hne => .inr ?_⟩
    obtain ⟨rfl, rfl, hm, ht, hr, rfl⟩ := hu.pendKind_of_ne hne
    exact ⟨hm, ht, hr, payload, hi⟩

end Sys2Proof.Machine
end

section
/-! Collaborator requests and draws (00_scope.md R15, 10_state.md R48, 60_exceptions.md R321; log entry 5). -/

namespace Sys2Proof.Machine

/-- The command made no request: the draw counter and the answer at hand are as they were. -/
structure NoDraw (s t : State) : Prop where
  request : t.out.request = none
  drawCount : t.drawCount = s.drawCount
  answer : t.answer = s.answer

/-- The command made this request, and took its draw. -/
structure Draws (r : Request) (s t : State) : Prop where
  request : t.out.request = some r
  drawCount : t.drawCount = s.drawCount + 1
  answer : t.answer = none

/-- A command that draws, enters a mode and emits the answer has made the one request. -/
theorem draws_emit_drawnAnswer (op : OpCode) (kind : DataKind) (r : Request) (m : Mode) (s : State) :
    Draws r s (emit op kind (drawnAnswer r s) ((afterDraw r (complete s)).setMode m)) := by
  rw [emit_drawnAnswer]
  exact ⟨rfl, rfl, rfl⟩

/-- What a command asks of a collaborator, and where. -/
inductive CommandRequest (i : Instr) (s t : State) : Prop where
  | none (h : NoDraw s t)
  | sensorRead (h : Draws (.sensorRead s.pendKind) s t) (hi : i = .tick) (hm : s.mode = .sensorReporting)
  | actuatorApply (kind : DataKind) (payload : Bytes) (h : Draws (.actuatorApply kind payload) s t)
      (hi : delivers i s.cfgGwId .command kind payload) (hm : s.mode = .active ∨ s.mode = .actuating)
      (hr : s.cfgRole = .actuatorNode) (ht : t.mode = .actuating)

/-- A command with a next state makes one of these requests, or none. -/
theorem exec_request {i : Instr} {s t : State} (h : exec i s = .next t) : CommandRequest i s t := by
  cases exec_effect h with
  | reset | packed | parsed | checked | rejected | undecoded => exact .none ⟨rfl, rfl, rfl⟩
  | ticked _ _ hi ht =>
    cases ht with
    | idle | enter | again | count => exact .none ⟨rfl, rfl, rfl⟩
    | sample hm => exact .sensorRead (draws_emit_drawnAnswer ..) hi hm
  | updated id op kind payload _ _ hi hu =>
    cases hu with
    | identity | opmode | role | confirm | activate | report | ack => exact .none ⟨rfl, rfl, rfl⟩
    | apply hid ho hm hr =>
      subst hid ho
      exact .actuatorApply kind payload (draws_emit_drawnAnswer ..) hi hm hr (by rw [applyCommand, emit_drawnAnswer])

/-- Settles O43: each request against the one command that makes it. -/
theorem requestsAreMadeOnlyWhereTheRulesSay : Obligations.RequestsAreMadeOnlyWhereTheRulesSay := by
  intro i s t h
  cases exec_request h with
  | none hn =>
    obtain ⟨request, drawCount, answer⟩ := hn
    rw [request]
    exact ⟨nofun, nofun, fun _ => ⟨drawCount, answer⟩, fun hne => absurd rfl hne⟩
  | sensorRead hd hi hm =>
    obtain ⟨request, drawCount, answer⟩ := hd
    rw [request]
    refine ⟨fun k hk => ?_, nofun, nofun, fun _ => ⟨drawCount, answer⟩⟩
    cases hk
    exact ⟨hi, hm, rfl⟩
  | actuatorApply kind payload hd hi hm hr ht =>
    obtain ⟨request, drawCount, answer⟩ := hd
    rw [request]
    refine ⟨nofun, fun k c hk => ?_, nofun, fun _ => ⟨drawCount, answer⟩⟩
    cases hk
    exact ⟨hm, hr, ht, hi⟩

end Sys2Proof.Machine
end

section
/-! CFG_KINDS is read by no command (10_state.md R37, D30): changing it beforehand changes it in the next state, and
nothing else. -/

namespace Sys2Proof.Machine

/-- The same state with another CFG_KINDS. -/
def State.setKinds (k : BitVec 7) (s : State) : State := { s with cfgKinds := k }

theorem inSession_setKinds (k : BitVec 7) (s t : State) :
    inSession (s.setKinds k) (t.setKinds k) = mapNext (State.setKinds k) (inSession s t) := by
  rw [inSession, inSession, apply_ite (mapNext _)]
  rfl

/-- Every op code's arm leaves CFG_KINDS alone. -/
theorem dispatchOp_setKinds (op : OpCode) (kind : DataKind) (payload : Bytes) (k : BitVec 7) (s : State) :
    dispatchOp op kind payload (s.setKinds k) = (dispatchOp op kind payload s).setKinds k := by
  cases op with
  | nodeInit | commandExec | sensorData => rfl
  | gatewayInit | initSuccess | command | sensorDataReq | ack =>
    simp only [dispatchOp, onGatewayInit_eq, onInitSuccess_eq, onCommand_eq, onSensorDataReq_eq, onAck_eq, applyCommand,
      emit_drawnAnswer, apply_ite (State.setKinds k)]
    rfl

theorem update_setKinds (id : NodeId) (op : OpCode) (kind : DataKind) (payload : Bytes) (k : BitVec 7) (s : State) :
    update id op kind payload (s.setKinds k) = (update id op kind payload s).setKinds k := by
  rw [update, update, identityGate, identityGate, apply_ite (State.setKinds k), dispatchOp_setKinds]
  rfl

/-- Every timed arm leaves CFG_KINDS alone. -/
theorem tickArm_setKinds (k : BitVec 7) (s : State) : tickArm (s.setKinds k) = (tickArm s).setKinds k := by
  cases hm : s.mode with
  | initializing =>
    rw [tickArm_of_initializing (s := s.setKinds k) hm, tickArm_of_initializing hm, tickInitializing, tickInitializing,
      apply_ite (State.setKinds k)]
    rfl
  | broadcasting =>
    rw [tickArm_of_broadcasting (s := s.setKinds k) hm, tickArm_of_broadcasting hm, tickBroadcasting, tickBroadcasting,
      apply_ite (State.setKinds k), apply_ite (State.setKinds k)]
    rfl
  | sensorReporting =>
    rw [tickArm_of_sensorReporting (s := s.setKinds k) hm, tickArm_of_sensorReporting hm, tickSensorReporting,
      tickSensorReporting, emit_drawnAnswer, emit_drawnAnswer]
    rfl
  | active | actuating =>
    have idle : s.mode = .active ∨ s.mode = .actuating := by simp [hm]
    rw [tickArm_of_idle (s := s.setKinds k) idle, tickArm_of_idle idle]
    rfl

/-- Settles O44: a message's arm, a timed arm and a codec command each leave CFG_KINDS alone. -/
theorem kindSetGuardsNothing : Obligations.KindSetGuardsNothing := by
  intro i s k hi
  have carried : exec i (s.setKinds k) = mapNext (State.setKinds k) (exec i s) := by
    cases instrKind i with
    | rst cfg h =>
      subst h
      cases hi
    | tick h =>
      subst h
      rw [exec, exec, execTick, execTick, tickArm_setKinds, inSession_setKinds]
    | message id op kind payload h => rw [exec_of_delivers h, exec_of_delivers h, update_setKinds, inSession_setKinds]
    | outputs o h =>
      rw [h, h, ← inSession_setKinds]
      rfl
  exact carried

end Sys2Proof.Machine
end
